-- ==== Sys2Proof/Word.lean ====
section
/-! DEFINITION. The register byte (spec/20_memory.md rule R42). The words on PWMCTL's ports have the widths of the configuration and stand in Config.lean. -/

namespace Sys2Proof

/-- One register of the peripheral, and the unit every transport transaction moves (R42). -/
abbrev Byte := BitVec 8

end Sys2Proof
end

