-- ==== Sys2Proof/Config.lean ====
section
/-! DEFINITION. The configuration record (spec/00_scope.md rules R7, R8, R10; spec/20_memory.md rule R43), the words on the ports, whose widths it gives (spec/30_encoding.md rules R71, R75, R77, R78), and the free value that stands for the transport's answers (R49). -/

namespace Sys2Proof

/-- The parameters the source leaves open, R10's table. The spec asks that a claim can name or quantify
over them, so they are fields of the configuration record (log 1). `TErr`, the type of the transport's
error cause, is `Nat`: any cause may be named by a number, and the ports carry its low `TERR_W` bits
(D7, log 11). -/
structure Params where
  /-- `DUTY_W`: width in bits of `duty_ns`, `period_ns` and the two result fields (D4). Left free; the
  spec speaks of 32 and wider only (R116, D24; log 21). -/
  dutyWidth        : Nat
  /-- `CHAN_W`: width in bits of the channel index on the command port (D5). -/
  chanWidth        : Nat
  /-- `TIMEOUT_W`: width in bits of the opaque `timeout` field (D6). -/
  timeoutWidth     : Nat
  /-- `TERR_W`: width in bits of the transport's error cause on the ports (D7). -/
  terrWidth        : Nat
  /-- `MODE_VAL_MEASURE`: OPEN (D8). -/
  modeValMeasure   : Byte
  /-- `MODE_VAL_GENERATE`: OPEN (D8); must differ from `modeValMeasure`. -/
  modeValGenerate  : Byte
  /-- `MODE_UPDATE_ON_FAIL`: OPEN (D9). -/
  modeUpdateOnFail : Bool
deriving DecidableEq, Repr

/-- The value R10 takes for each parameter; for the OPEN ones the spec's default, a DESIGN CHOICE unsafe
at reset only (log 1): no statement rests on it. -/
def Params.default : Params where
  dutyWidth        := 32
  chanWidth        := 8
  timeoutWidth     := 32
  terrWidth        := 8
  modeValMeasure   := 0x00
  modeValGenerate  := 0x01
  modeUpdateOnFail := false

/-- The fixed layout constants (R7), the converter constants (R8) and the two allow-lists (R43), with the
parameters of R10. `State` carries the record and no step writes it (log 1). -/
structure Config extends Params where
  /-- `MAX_REGISTER`, the last address of the register space. -/
  maxRegister      : Nat
  /-- `MAX_CHANNELS`. -/
  maxChannels      : Nat
  /-- `MODE_REG`, the address of the mode register. -/
  modeReg          : Nat
  /-- `BASE_CHANNEL_REG`, the address of channel 0's register. -/
  baseChannelReg   : Nat
  /-- `CLOCK_FREQ` in Hz; enters no computation, `denom` is its pre-collapsed form (R8, R181). -/
  clockFreq        : Nat
  /-- `NS_PER_SEC`; enters no computation (N18). -/
  nsPerSec         : Nat
  /-- `DENOM`, ten clock cycles in nanoseconds (R9). -/
  denom            : Nat
  /-- `SCALE`, the literal multiplier. -/
  scale            : Nat
  /-- `SHIFT`, the literal shift in bits. -/
  shift            : Nat
  /-- `DEV_MAX`, the device-unit ceiling. -/
  devMax           : Nat
  /-- `PERIOD_NS`, the fixed period. -/
  periodNs         : Nat
  /-- `READ_RANGES`, inclusive `(lo, hi)` pairs. -/
  readRanges       : List (Nat × Nat)
  /-- `WRITE_RANGES`, inclusive `(lo, hi)` pairs. -/
  writeRanges      : List (Nat × Nat)
deriving DecidableEq, Repr

/-- PWMCTL's own configuration: every literal of R7, R8 and R43 at its printed value, the parameters of
R10 left to the caller. -/
def Config.pwmctl (p : Params) : Config where
  toParams         := p
  maxRegister      := 0x0C
  maxChannels      := 6
  modeReg          := 0x00
  baseChannelReg   := 0x01
  clockFreq        := 80000000
  nsPerSec         := 1000000000
  denom            := 125
  scale            := 10
  shift            := 10
  devMax           := 255
  periodNs         := 20000000
  readRanges       := [(0x01, 0x06), (0x0A, 0x0A), (0x0C, 0x0C)]
  writeRanges      := [(0x00, 0x06), (0x0B, 0x0B)]

/-- The record is PWMCTL's own, whatever its parameters, with the one constraint of R10: the two mode
bytes differ. A claim about the real block holds for every such record. -/
abbrev Config.IsPwmctl (c : Config) : Prop :=
  c = Config.pwmctl c.toParams ∧ c.modeValMeasure ≠ c.modeValGenerate

/-- The widths are those the spec takes (R10, D4 to D7), the ones the printed bit positions belong to. -/
abbrev Config.HasDefaultWidths (c : Config) : Prop :=
  c.dutyWidth = 32 ∧ c.chanWidth = 8 ∧ c.timeoutWidth = 32 ∧ c.terrWidth = 8

/-- The configuration at reset, and the one whose widths the opcode table's words have (log 1). -/
def Config.default : Config := Config.pwmctl Params.default

/-! ### The words on the ports

Every word is the concatenation of its fields, each at its width; the printed positions are those of the
default widths, and at other widths the fields keep their order (log 20). -/

/-- Where `period_ns` begins in the command word: above `timeout` (R71). -/
abbrev Config.periodLo (c : Config) : Nat := c.timeoutWidth

/-- Where `duty_ns` begins (R71). -/
abbrev Config.dutyLo (c : Config) : Nat := c.timeoutWidth + c.dutyWidth

/-- Where `chan` begins (R71). -/
abbrev Config.chanLo (c : Config) : Nat := c.timeoutWidth + c.dutyWidth + c.dutyWidth

/-- Where `op` begins (R71). -/
abbrev Config.opLo (c : Config) : Nat := c.timeoutWidth + c.dutyWidth + c.dutyWidth + c.chanWidth

/-- The width of the command word; 107 at the default widths (R71). -/
abbrev Config.cmdWidth (c : Config) : Nat :=
  3 + c.chanWidth + c.dutyWidth + c.dutyWidth + c.timeoutWidth

/-- The command word `cmd` (R71). -/
abbrev CmdWord (c : Config) := BitVec c.cmdWidth

/-- What the command port's wires carry of a word given as a number. -/
def portWord (c : Config) (n : Nat) : CmdWord c := BitVec.ofNat _ n

/-- The response word `rsp`; 75 bits at the default widths (R75). -/
abbrev RspWord (c : Config) := BitVec (3 + c.dutyWidth + c.dutyWidth + c.terrWidth)

/-- The transport request `xreq`; 49 bits at the default widths (R77). -/
abbrev XReqWord (c : Config) := BitVec (1 + 8 + 8 + c.timeoutWidth)

/-- The transport response `xrsp`; 17 bits at the default widths (R78). -/
abbrev XRspWord (c : Config) := BitVec (1 + 8 + c.terrWidth)

/-- One response of the transport (R78): `err`, `rdata`, `terr`. Which of the last two is looked at
depends on the request and on `err`. -/
structure XRsp where
  err   : Bool
  rdata : Byte
  terr  : Nat
deriving DecidableEq, Repr

/-- THE FREE VALUE of the model: the transport's answer to the n-th request whose answer `State.answers`
does not list; `none` where the transport never answers (R49, U1, U2, U15). Uninterpreted: nothing can
be proved of it (log 2). -/
opaque Config.transportDraw : Nat → Option XRsp

end Sys2Proof
end

