-- ==== Sys2Proof/Syntax.lean ====
section
/-! DEFINITION. The host commands, one constructor per row of spec/opcode_table.json (spec/30_encoding.md rules R71, R72, R74). -/

namespace Sys2Proof

/-- A host command with the fields the spec gives it. Fields that R72 calls ignored are not kept, but
for `periodNs` of CONFIGURE, which is an argument of the source's operation (R72, R136; log 12).
Operands are the unsigned integers the rules compute with (R16, R17); their widths are `Instr.wf`'s. -/
inductive Instr where
  /-- `op = 0`, R130. -/
  | configure (chan dutyNs periodNs : Nat)
  /-- `op = 1`, R131. -/
  | capture (chan timeout : Nat)
  /-- `op = 2`, R132. -/
  | setPolarity
  /-- `op = 3`, R150. -/
  | enable
  /-- `op = 4`, R151. -/
  | disable
  /-- `op = 5`, R152. -/
  | teardown
  /-- `op = 6`, reserved, R74. -/
  | reserved6
  /-- `op = 7`, reserved, R74. -/
  | reserved7
deriving DecidableEq, Repr

end Sys2Proof
end

