-- ==== Sys2Proof/WellFormed.lean ====
section
/-! DEFINITION. Which commands the command word can carry: every operand within its field's width (spec/30_encoding.md rule R71; spec/00_scope.md rules R10, R16). -/

namespace Sys2Proof

/-- A field of width `n` holds a value in `[0, 2^n - 1]` (R16). -/
def fitsWidth (n v : Nat) : Bool := v < 2 ^ n

/-- Every operand fits the field R71 gives it, at the widths of the configuration. -/
def Instr.wf (c : Config) (i : Instr) : Bool :=
  match i with
  | .configure chan dutyNs periodNs =>
      fitsWidth c.chanWidth chan && fitsWidth c.dutyWidth dutyNs && fitsWidth c.dutyWidth periodNs
  | .capture chan timeout => fitsWidth c.chanWidth chan && fitsWidth c.timeoutWidth timeout
  | .setPolarity => true
  | .enable => true
  | .disable => true
  | .teardown => true
  | .reserved6 => true
  | .reserved7 => true

end Sys2Proof
end

