-- ==== Sys2Proof/Decode.lean ====
section
/-! DEFINITION. Decoding and encoding the command word, 107 bits at the default widths (spec/30_encoding.md rules R71 to R74, R83), the opcode table's numbering, and the text syntax (R84). -/

namespace Sys2Proof

/-- The field of `width` bits whose lowest bit is `lo`, as an unsigned number (R16, R71). -/
def cmdField {n : Nat} (w : BitVec n) (lo width : Nat) : Nat := (w.extractLsb' lo width).toNat

/-- `chan`, bits 103:96 at the default widths (R71). -/
def chanField (c : Config) (w : CmdWord c) : Nat := cmdField w c.chanLo c.chanWidth

/-- `duty_ns`, bits 95:64 at the default widths (R71). -/
def dutyField (c : Config) (w : CmdWord c) : Nat := cmdField w c.dutyLo c.dutyWidth

/-- `period_ns`, bits 63:32 at the default widths (R71). -/
def periodField (c : Config) (w : CmdWord c) : Nat := cmdField w c.periodLo c.dutyWidth

/-- `timeout`, bits 31:0 at the default widths (R71). -/
def timeoutField (c : Config) (w : CmdWord c) : Nat := cmdField w 0 c.timeoutWidth

/-- Decoding looks at `op` only, `cmd[106:104]` at the default widths (R83); the three bits, most
significant first, name one command each, so no word is left without one and no reserved selector falls
to a neighbour (R74). -/
def decode (c : Config) (w : CmdWord c) : Instr :=
  match w.getLsbD (c.opLo + 2), w.getLsbD (c.opLo + 1), w.getLsbD c.opLo with
  | false, false, false => .configure (chanField c w) (dutyField c w) (periodField c w)
  | false, false, true  => .capture (chanField c w) (timeoutField c w)
  | false, true,  false => .setPolarity
  | false, true,  true  => .enable
  | true,  false, false => .disable
  | true,  false, true  => .teardown
  | true,  true,  false => .reserved6
  | true,  true,  true  => .reserved7

/-- Why a number is no command. -/
inductive DecodeError where
  /-- A bit is set above the command word's highest, 106 at the default widths: the command port has no
  wire for it (R71, R73). Safe. -/
  | widerThanCommandWord
deriving DecidableEq, Repr

/-- Decoding any number whatever: one that does not fit the command port is rejected by name. -/
def decodeNumber (c : Config) (w : Nat) : Except DecodeError Instr :=
  if w < 2 ^ c.cmdWidth then .ok (decode c (portWord c w)) else .error .widerThanCommandWord

/-- The `op` field of a command (R72). -/
def opBits : Instr → BitVec 3
  | .configure _ _ _ => 0b000
  | .capture _ _     => 0b001
  | .setPolarity     => 0b010
  | .enable          => 0b011
  | .disable         => 0b100
  | .teardown        => 0b101
  | .reserved6       => 0b110
  | .reserved7       => 0b111

/-- `{op, chan, duty_ns, period_ns, timeout}` (R71), `op` most significant. DESIGN CHOICE: of an operand
wider than its field the word carries the low bits (log 22). -/
def cmdWord (c : Config) (op : BitVec 3) (chan dutyNs periodNs timeout : Nat) : CmdWord c :=
  op ++ BitVec.ofNat c.chanWidth chan ++ BitVec.ofNat c.dutyWidth dutyNs ++
    BitVec.ofNat c.dutyWidth periodNs ++ BitVec.ofNat c.timeoutWidth timeout

/-- The word of a command, every ignored field 0 (R71, R72; log 12). -/
def encode (c : Config) (i : Instr) : CmdWord c :=
  match i with
  | .configure chan dutyNs periodNs => cmdWord c (opBits i) chan dutyNs periodNs 0
  | .capture chan timeout           => cmdWord c (opBits i) chan 0 0 timeout
  | .setPolarity                    => cmdWord c (opBits i) 0 0 0 0
  | .enable                         => cmdWord c (opBits i) 0 0 0 0
  | .disable                        => cmdWord c (opBits i) 0 0 0 0
  | .teardown                       => cmdWord c (opBits i) 0 0 0 0
  | .reserved6                      => cmdWord c (opBits i) 0 0 0 0
  | .reserved7                      => cmdWord c (opBits i) 0 0 0 0

/-- Every bit of a field of `width` bits. -/
def fullField (width : Nat) : Nat := 2 ^ width - 1

/-- Which bits of its word a command reads: `op`, and the fields that R72 lists for it (with CONFIGURE's
`period_ns`, which the source's operation takes and ignores; log 12). Every other bit may hold anything. -/
def readMask (c : Config) (i : Instr) : CmdWord c :=
  match i with
  | .configure _ _ _ =>
      cmdWord c 0b111 (fullField c.chanWidth) (fullField c.dutyWidth) (fullField c.dutyWidth) 0
  | .capture _ _     => cmdWord c 0b111 (fullField c.chanWidth) 0 0 (fullField c.timeoutWidth)
  | .setPolarity     => cmdWord c 0b111 0 0 0 0
  | .enable          => cmdWord c 0b111 0 0 0 0
  | .disable         => cmdWord c 0b111 0 0 0 0
  | .teardown        => cmdWord c 0b111 0 0 0 0
  | .reserved6       => cmdWord c 0b111 0 0 0 0
  | .reserved7       => cmdWord c 0b111 0 0 0 0

/-- The opcode table's view: the instruction whose bits are `w`, bit 0 the least significant bit of its
one word. A row has the default widths' 107 bits, which is 14 bytes with the top five bits absent
(log 19). -/
def decodeTableWord (_nbits w : Nat) : Option Instr := (decodeNumber Config.default w).toOption

/-- The upper-case mnemonic of R84; reserved selectors have no text form and show the table's name. -/
def mnemonic : Instr → String
  | .configure _ _ _ => "CONFIGURE"
  | .capture _ _     => "CAPTURE"
  | .setPolarity     => "SET_POLARITY"
  | .enable          => "ENABLE"
  | .disable         => "DISABLE"
  | .teardown        => "TEARDOWN"
  | .reserved6       => "RESERVED_6"
  | .reserved7       => "RESERVED_7"

/-- The operands of a command in the source's argument order (R84). -/
def textOperands : Instr → List Nat
  | .configure chan dutyNs periodNs => [chan, dutyNs, periodNs]
  | .capture chan timeout           => [chan, timeout]
  | .setPolarity                    => []
  | .enable                         => []
  | .disable                        => []
  | .teardown                       => []
  | .reserved6                      => []
  | .reserved7                      => []

/-- Reading one line of a program, its mnemonic and its operands (R84): an omitted `period_ns` or
`timeout` is 0, and nothing else is a command. DESIGN CHOICE: an operand wider than its field is accepted,
and the command is then not well formed (log 22). -/
def assemble (name : String) (operands : List Nat) : Option Instr :=
  if name = "CONFIGURE" then
    match operands with
    | [chan, dutyNs, periodNs] => some (.configure chan dutyNs periodNs)
    | [chan, dutyNs]           => some (.configure chan dutyNs 0)
    | _                        => none
  else if name = "CAPTURE" then
    match operands with
    | [chan, timeout] => some (.capture chan timeout)
    | [chan]          => some (.capture chan 0)
    | _               => none
  else if operands ≠ [] then none
  else if name = "SET_POLARITY" then some .setPolarity
  else if name = "ENABLE" then some .enable
  else if name = "DISABLE" then some .disable
  else if name = "TEARDOWN" then some .teardown
  else none

end Sys2Proof
end

