-- ==== Sys2Proof/Machine/State.lean ====
section
/-! DEFINITION. The machine's state as plain data, its values at reset, and the two reasons a step can stop (spec/10_state.md rules R20 to R33). -/

namespace Sys2Proof.Machine

/-- The mode shadow's values (R20); device-wide, not per channel. -/
inductive Mode where
  | measure
  | generate
deriving DecidableEq, Repr

/-- The lifecycle flag's values (R21). -/
inductive Life where
  | live
  | destroyed
deriving DecidableEq, Repr

/-- The in-flight marker's values (R22). -/
inductive Busy where
  | idle
  | busy
deriving DecidableEq, Repr

/-- The four error kinds of R170. The transport's cause is opaque, of any value, `TERR_W` bits of it on
the ports (D7, log 11). -/
inductive ErrorKind where
  | outOfRange
  | permissionDenied
  | unsupported
  | transportFailure (cause : Nat)
deriving DecidableEq, Repr

/-- How a command ends (R170): `return Ok()`, CAPTURE's `return Ok(duty_cycle_ns, period_ns)`, or
`raise` of an error kind. Only a CAPTURE has result fields (D15). -/
inductive Response where
  | ok
  | captured (dutyCycleNs periodNs : Nat)
  | error (kind : ErrorKind)
deriving DecidableEq, Repr

/-- What a transport read evaluates to: `Ok(b)` or `Err(e)` (R47, R49). -/
inductive ReadAnswer where
  | ok (value : Byte)
  | err (cause : Nat)
deriving DecidableEq, Repr

/-- What a transport write evaluates to: `Ok` or `Err(e)` (R47, R49). -/
inductive WriteAnswer where
  | ok
  | err (cause : Nat)
deriving DecidableEq, Repr

/-- One transport transaction as R32 records it: kind, address, timeout or value, answer. The answer is
`none` where the transport never gave one (R197). -/
inductive Event where
  | read (addr timeout : Nat) (answer : Option ReadAnswer)
  | write (addr : Nat) (value : Byte) (answer : Option WriteAnswer)
deriving DecidableEq, Repr

/-- What the host does next (R12, R70, R190). -/
inductive HostMove where
  /-- Present a command word until it is accepted; the word is a number, of which the port's wires carry
  `CmdWord`'s bits (log 19). -/
  | present (word : Nat)
  /-- Assert the block's reset input. -/
  | reset
deriving DecidableEq, Repr

/-- The state of one PWMCTL with its environment's coming inputs. -/
structure State where
  /-- The configuration record; no step writes it (R14, R27, log 1). -/
  cfg       : Config
  /-- The mode shadow (R20). -/
  mode      : Mode
  /-- The lifecycle flag (R21). -/
  life      : Life
  /-- The in-flight marker (R22). -/
  busy      : Busy
  /-- The response outputs: the response waiting for delivery, if any (R33, R70). -/
  rsp       : Option Response
  /-- Every transport transaction since reset, oldest first (R32, R191). -/
  history   : List Event
  /-- Every response delivered since reset, oldest first (R201). -/
  responses : List Response
  /-- The host's coming moves, the next one first (R12, R201, log 3). -/
  host      : List HostMove
  /-- The transport's coming answers, the next one first; `none` where it never answers (R49, R197,
  log 2). -/
  answers   : List (Option XRsp)
  /-- How many answers have been drawn from `Config.transportDraw`; the model's own field (log 2). -/
  draws     : Nat
deriving DecidableEq, Repr

/-- The block right after reset (R33, R190, R191): MEASURE, LIVE, IDLE, no response pending, nothing
sent. The environment's inputs are empty and the OPEN parameters at the spec's defaults (log 1 to 3). -/
def State.reset : State where
  cfg       := Config.default
  mode      := .measure
  life      := .live
  busy      := .idle
  rsp       := none
  history   := []
  responses := []
  host      := []
  answers   := []
  draws     := 0

/-- Why the machine stops. -/
inductive Fault where
  /-- STUCK, not an error response: the host presents a command to a destroyed instance, which never
  accepts it (R153, U4). Raised by `step` alone, by no instruction. Safe: nothing can be proved of what
  follows (log 6). -/
  | stuckAfterTeardown
deriving DecidableEq, Repr

/-- What the model gives no meaning to. -/
inductive Refusal where
  /-- The instruction has no meaning yet; raised by a refused arm of `exec`, of which there is none. Safe. -/
  | notModelled (mnemonic : String)
  /-- The host asserts reset while a command is in flight; the spec asks the model to take the opposite
  as a premise (R192, R202, U5). Raised by `step` alone, by no instruction. Safe (log 7). -/
  | resetInFlight
deriving DecidableEq, Repr

end Sys2Proof.Machine
end

