-- ==== Sys2Proof/Machine/Flags.lean ====
section
/-! DEFINITION. What stands where a processor has flags: the status codes, the words on the response and transport ports and the always valid outputs (spec/30_encoding.md rules R70, R75 to R79). PWMCTL has no flags (spec/10_state.md rule R26). -/

namespace Sys2Proof.Machine

/-- The `status` code of a response (R76); 5, 6 and 7 are never produced. -/
def statusCode : Response → BitVec 3
  | .ok                          => 0
  | .captured _ _                => 0
  | .error .outOfRange           => 1
  | .error .permissionDenied     => 2
  | .error .unsupported          => 3
  | .error (.transportFailure _) => 4

/-- The `duty_cycle_ns` field: CAPTURE's result, 0 in every other response (R75). -/
def dutyResult : Response → Nat
  | .captured dutyCycleNs _ => dutyCycleNs
  | .ok                     => 0
  | .error _                => 0

/-- The `period_ns` field: CAPTURE's result, 0 in every other response (R75). -/
def periodResult : Response → Nat
  | .captured _ periodNs => periodNs
  | .ok                  => 0
  | .error _             => 0

/-- The `terr` field: the transport's cause of a TransportFailure, 0 otherwise (R75). -/
def causeField : Response → Nat
  | .error (.transportFailure cause) => cause
  | .error .outOfRange               => 0
  | .error .permissionDenied         => 0
  | .error .unsupported              => 0
  | .ok                              => 0
  | .captured _ _                    => 0

/-- The response word `{status, duty_cycle_ns, period_ns, terr}` (R75). DESIGN CHOICE: where `DUTY_W` is
too narrow for a result, its field carries the result's low bits (log 21); a cause likewise (log 11). -/
def responseWord (cfg : Config) (r : Response) : RspWord cfg :=
  statusCode r ++ BitVec.ofNat cfg.dutyWidth (dutyResult r) ++
    BitVec.ofNat cfg.dutyWidth (periodResult r) ++ BitVec.ofNat cfg.terrWidth (causeField r)

/-- The transport request word `{rw, addr, wdata, timeout}` of a transaction (R77). -/
def requestWord (cfg : Config) (e : Event) : XReqWord cfg :=
  match e with
  | .read addr timeout _ =>
      0#1 ++ BitVec.ofNat 8 addr ++ 0#8 ++ BitVec.ofNat cfg.timeoutWidth timeout
  | .write addr value _  => 1#1 ++ BitVec.ofNat 8 addr ++ value ++ 0#cfg.timeoutWidth

/-- A transport response from its word `{err, rdata, terr}` (R78). -/
def xrspOfWord (cfg : Config) (w : XRspWord cfg) : XRsp where
  err   := w.getLsbD (cfg.terrWidth + 8)
  rdata := w.extractLsb' cfg.terrWidth 8
  terr  := (w.extractLsb' 0 cfg.terrWidth).toNat

/-- What a transport response says to a read: `rdata` unless `err`, then `terr` (R78). -/
def readAnswerOf (x : XRsp) : ReadAnswer := if x.err then .err x.terr else .ok x.rdata

/-- What a transport response says to a write; `rdata` is ignored (R78). -/
def writeAnswerOf (x : XRsp) : WriteAnswer := if x.err then .err x.terr else .ok

/-- `mode_o` (R79): 0 = MEASURE, 1 = GENERATE. -/
def modeOutput (s : State) : BitVec 1 :=
  match s.mode with
  | .measure  => 0
  | .generate => 1

/-- `life_o` (R79): 0 = LIVE, 1 = DESTROYED. -/
def lifeOutput (s : State) : BitVec 1 :=
  match s.life with
  | .live      => 0
  | .destroyed => 1

/-- `cmd_ready` (R70): true exactly when IDLE and LIVE. -/
def cmdReady (s : State) : Bool := decide (s.busy = .idle) && decide (s.life = .live)

/-- `rsp_valid` (R70): a response waits for delivery. -/
def rspValid (s : State) : Bool := s.rsp.isSome

/-- `rsp` (R75), where a response waits for delivery. -/
def rspOutput (s : State) : Option (RspWord s.cfg) := s.rsp.map (responseWord s.cfg)

end Sys2Proof.Machine
end

