-- ==== Sys2Proof/Machine/Operands.lean ====
section
/-! DEFINITION. The pure functions a command applies to its operands, and their ports: the Register Access Table (spec/40_access_table.md), the Unit Converter (spec/41_unit_converter.md), the address demultiplexer (spec/42_channel_ops.md rule R133) and the query ports (spec/30_encoding.md rule R80). -/

namespace Sys2Proof.Machine

/-- Whether an address lies in one of a list of inclusive ranges (R43). -/
def inRanges (ranges : List (Nat × Nat)) (addr : Nat) : Bool :=
  ranges.any fun r => decide (r.1 ≤ addr) && decide (addr ≤ r.2)

/-- `can_read`, over the readable allow-list alone; total on every natural number (R100, R102). -/
def canRead (cfg : Config) (addr : Nat) : Bool := inRanges cfg.readRanges addr

/-- `can_write`, over the writable allow-list alone (R101, R102). -/
def canWrite (cfg : Config) (addr : Nat) : Bool := inRanges cfg.writeRanges addr

/-- The four classes of R105. -/
inductive AccessClass where
  | readOnly
  | writeOnly
  | both
  | neither
deriving DecidableEq, Repr

/-- The class of an address, from the two predicates and nothing else (R105). -/
def accessClass (cfg : Config) (addr : Nat) : AccessClass :=
  match canRead cfg addr, canWrite cfg addr with
  | true,  true  => .both
  | true,  false => .readOnly
  | false, true  => .writeOnly
  | false, false => .neither

/-- The full-width `value` of the forward conversion, before the test against the ceiling: one
truncating division, then the multiplication and a truncating right shift, never merged (R110, R112). -/
def deviceValue (cfg : Config) (dutyNs : Nat) : Nat :=
  (cfg.scale * (dutyNs / cfg.denom)) >>> cfg.shift

/-- `to_device_unit` (R110): reject above the ceiling, never clamp (R113); the test is on the full-width
value (R118). `none` is reject. -/
def toDeviceUnit (cfg : Config) (dutyNs : Nat) : Option Byte :=
  if deviceValue cfg dutyNs > cfg.devMax then none
  else some (BitVec.ofNat 8 (deviceValue cfg dutyNs))

/-- `from_device_unit` (R114): shift left, multiply by `DENOM`, divide by the multiplier. -/
def fromDeviceUnit (cfg : Config) (value : Byte) : Nat :=
  ((value.toNat <<< cfg.shift) * cfg.denom) / cfg.scale

/-- `lo(v)`, the smallest duty cycle that encodes as `v` (R111). -/
def smallestInput (v : Nat) : Nat := 125 * ((1024 * v + 9) / 10)

/-- The address demultiplexer (R133): the channel is compared before any address is formed; `none` is a
channel at or beyond `MAX_CHANNELS`. -/
def channelAddress (cfg : Config) (chan : Nat) : Option Nat :=
  if chan < cfg.maxChannels then some (cfg.baseChannelReg + chan) else none

/-- Access validator port: `acc_addr` to (`acc_rd_ok`, `acc_wr_ok`) (R80). -/
def accessPort (cfg : Config) (addr : Byte) : Bool × Bool :=
  (canRead cfg addr.toNat, canWrite cfg addr.toNat)

/-- Forward converter port: `cv_duty_ns` to (`cv_value`, `cv_reject`); the value is 0 on reject (R80). -/
def forwardPort (cfg : Config) (dutyNs : BitVec cfg.dutyWidth) : Byte × Bool :=
  match toDeviceUnit cfg dutyNs.toNat with
  | some value => (value, false)
  | none       => (0, true)

/-- Reverse converter port: `cv_raw` to `cv_ns`, zero-extended to `DUTY_W` bits (R80, R116).
DESIGN CHOICE: with `DUTY_W` below 22 it carries the result's low bits (log 21). -/
def reversePort (cfg : Config) (raw : Byte) : BitVec cfg.dutyWidth :=
  BitVec.ofNat cfg.dutyWidth (fromDeviceUnit cfg raw)

/-- Address demultiplexer port: `dm_chan` to (`dm_addr`, `dm_bad`); the address is 0 when bad (R80). -/
def demuxPort (cfg : Config) (chan : BitVec cfg.chanWidth) : Byte × Bool :=
  match channelAddress cfg chan.toNat with
  | some addr => (BitVec.ofNat 8 addr, false)
  | none      => (0, true)

end Sys2Proof.Machine
end

