-- ==== Sys2Proof/Machine/Ops.lean ====
section
/-! DEFINITION. The operations every command is made of: the response, the transport's two primitives, the mode write, and the handshake around a command (spec/00_scope.md rule R18; spec/20_memory.md rules R45 to R50; spec/30_encoding.md rule R70; spec/43_mode_ops.md rules R151, R156; spec/70_reset_and_hazards.md rules R190 to R197). -/

namespace Sys2Proof.Machine

/-- `return`: the command ends and its response is put on the response outputs (R18, R70). -/
def respond (r : Response) (s : State) : State := { s with rsp := some r }

/-- `raise`: what stands for taking an exception here. The command ends with the kind as its status;
nothing is saved, no mode changes and control goes nowhere (R170, R178). -/
def raise (kind : ErrorKind) (s : State) : State := respond (.error kind) s

/-- One transaction more in the event history (R32). -/
def record (e : Event) (s : State) : State := { s with history := s.history ++ [e] }

/-- The mode shadow takes a value (R20). -/
def setMode (m : Mode) (s : State) : State := { s with mode := m }

/-- The lifecycle flag takes a value (R21). -/
def setLife (l : Life) (s : State) : State := { s with life := l }

/-- What the transport will say to the next request: the next listed answer, or a draw where none is
listed; `none` where it never answers (R49, R197, log 2). -/
def nextAnswer (s : State) : Option XRsp :=
  match s.answers with
  | answer :: _ => answer
  | []          => Config.transportDraw s.draws

/-- That answer is used up. -/
def consumeAnswer (s : State) : State :=
  match s.answers with
  | _ :: rest => { s with answers := rest }
  | []        => { s with draws := s.draws + 1 }

/-- What `MemRead` evaluates to, if the transport answers at all (R18, R49). -/
def readResult (s : State) : Option ReadAnswer := (nextAnswer s).map readAnswerOf

/-- What `MemWrite` evaluates to, if the transport answers at all (R18, R49). -/
def writeResult (s : State) : Option WriteAnswer := (nextAnswer s).map writeAnswerOf

/-- `MemRead(addr, 1, timeout)`: one transport read, recorded with its answer (R18, R32, R48, R50). -/
def memRead (addr timeout : Nat) (s : State) : State :=
  record (.read addr timeout (readResult s)) (consumeAnswer s)

/-- `MemWrite(addr, 1, value)`: one transport write, recorded with its answer (R18, R32, R48). -/
def memWrite (addr : Nat) (value : Byte) (s : State) : State :=
  record (.write addr value (writeResult s)) (consumeAnswer s)

/-- The command ends with the outcome of its last step; where there is none, the transport never
answered and the block hangs, BUSY and without a response (R197, log 5). -/
def finish (outcome : Option Response) (s : State) : State :=
  match outcome with
  | some r => respond r s
  | none   => s

/-- CONFIGURE's answer as an outcome (R130 step 5). -/
def writeOutcome : WriteAnswer → Response
  | .ok        => .ok
  | .err cause => .error (.transportFailure cause)

/-- CAPTURE's answer as an outcome (R131 step 4): the byte in nanoseconds and the fixed period (R122). -/
def captureOutcome (cfg : Config) : ReadAnswer → Response
  | .ok raw    => .captured (fromDeviceUnit cfg raw) cfg.periodNs
  | .err cause => .error (.transportFailure cause)

/-- The byte that selects a mode (R28, R82): one of the two OPEN constants. -/
def modeByte (cfg : Config) : Mode → Byte
  | .measure  => cfg.modeValMeasure
  | .generate => cfg.modeValGenerate

/-- The mode shadow after the mode write was answered (R150, R151 step 2; R156): the target after a
success; after a failure the target or no change, as `MODE_UPDATE_ON_FAIL` says; no change while there
is no answer. -/
def modeAfterWrite (target : Mode) (answer : Option WriteAnswer) (s : State) : Mode :=
  match answer with
  | some .ok      => target
  | some (.err _) => if s.cfg.modeUpdateOnFail then target else s.mode
  | none          => s.mode

/-- The state after the two steps ENABLE and DISABLE share, with TEARDOWN's step 1: the permission
check, then the one write to the mode register and the shadow's update (R150 to R152, R155). -/
def modeWrite (target : Mode) (s : State) : State :=
  if canWrite s.cfg s.cfg.modeReg then
    setMode (modeAfterWrite target (writeResult s) s)
      (memWrite s.cfg.modeReg (modeByte s.cfg target) s)
  else s

/-- The outcome of those two steps; `none` where the transport never answers. -/
def modeWriteOutcome (s : State) : Option Response :=
  if canWrite s.cfg s.cfg.modeReg then (writeResult s).map writeOutcome
  else some (.error .permissionDenied)

/-- Acceptance of the command the host presents (R70): it leaves the host's list and the block is BUSY. -/
def acceptCommand (rest : List HostMove) (s : State) : State := { s with host := rest, busy := .busy }

/-- Delivery of the response (R70): the host has it, nothing is pending, the block is IDLE. -/
def deliverResponse (r : Response) (s : State) : State :=
  { s with responses := s.responses ++ [r], rsp := none, busy := .idle }

/-- The reset event (R190, R191): every element of R33 takes its reset value and no transaction is
issued; the history and the responses are those since reset. The environment's inputs and the
configuration are not the block's to reset (log 9). -/
def resetBlock (s : State) : State :=
  { s with
    mode := .measure, life := .live, busy := .idle, rsp := none, history := [], responses := [] }

/-- The host asserts reset; that leaves its list. -/
def hostReset (rest : List HostMove) (s : State) : State := resetBlock { s with host := rest }

/-- One move of the block and its host, given what running an accepted command does.
BUSY: a pending response is delivered (the host must take it, R202); with none the block hangs for its
transport (R197), and a reset now is outside the model (R192).
IDLE: the host's next move, if there is one (R15); a command is accepted only while LIVE (R70, R153). -/
def handshake (run : Instr → State → Host.Outcome State Fault Refusal) (s : State) :
    Host.Outcome State Fault Refusal :=
  match s.busy, s.rsp, s.host, s.life with
  | .busy, some r, _,                    _          => .next (deliverResponse r s)
  | .busy, none,   .reset :: _,          _          => .refused .resetInFlight
  | .busy, none,   .present _ :: _,      _          => .next s
  | .busy, none,   [],                   _          => .next s
  | .idle, _,      [],                   _          => .next s
  | .idle, _,      .reset :: rest,       _          => .next (hostReset rest s)
  | .idle, _,      .present _ :: _,      .destroyed => .fault .stuckAfterTeardown
  | .idle, _,      .present word :: rest, .live      =>
      run (decode s.cfg (portWord s.cfg word)) (acceptCommand rest s)

/-- The host presents `word` next to a block that can accept it: IDLE, LIVE, nothing pending. -/
def presentNext (word : Nat) (s : State) : State :=
  { s with host := .present word :: s.host, busy := .idle, life := .live, rsp := none }

/-- The last value successfully written to an address, from the event history: what a claim about the
peripheral may rest on (R31, U3). -/
def lastWritten (addr : Nat) (history : List Event) : Option Byte :=
  history.foldl (init := none) fun acc e =>
    match e with
    | .write a value (some .ok)      => if a = addr then some value else acc
    | .write _ _ (some (.err _))     => acc
    | .write _ _ none                => acc
    | .read _ _ _                    => acc

end Sys2Proof.Machine
end

