-- ==== Sys2Proof/Machine/ChannelOps.lean ====
section
/-! DEFINITION. The Channel Controller's commands: CONFIGURE, CAPTURE, SET_POLARITY (spec/42_channel_ops.md rules R130 to R132). -/

namespace Sys2Proof.Machine

/-- CONFIGURE (R130): channel, duty cycle and permission are checked in that order (R134), then one
write; `periodNs` has no effect whatever (R136), and the mode is not looked at (R135). -/
def execConfigure (chan dutyNs _periodNs : Nat) (s : State) : Host.Outcome State Fault Refusal :=
  .next <|
    match channelAddress s.cfg chan, toDeviceUnit s.cfg dutyNs with
    | none,      _          => raise .outOfRange s
    | some _,    none       => raise .outOfRange s
    | some addr, some value =>
      if canWrite s.cfg addr then
        finish ((writeResult s).map writeOutcome) (memWrite addr value s)
      else raise .permissionDenied s

/-- CAPTURE (R131): channel and permission are checked, then one read; the timeout goes to the transport
unchanged and nowhere else (R50, R137). -/
def execCapture (chan timeout : Nat) (s : State) : Host.Outcome State Fault Refusal :=
  .next <|
    match channelAddress s.cfg chan with
    | none      => raise .outOfRange s
    | some addr =>
      if canRead s.cfg addr then
        finish ((readResult s).map (captureOutcome s.cfg)) (memRead addr timeout s)
      else raise .permissionDenied s

/-- SET_POLARITY (R132): unconditionally unsupported. -/
def execSetPolarity (s : State) : Host.Outcome State Fault Refusal := .next (raise .unsupported s)

end Sys2Proof.Machine
end

