-- ==== Sys2Proof/Machine/ModeOps.lean ====
section
/-! DEFINITION. The Mode State Machine's commands: ENABLE, DISABLE, TEARDOWN (spec/43_mode_ops.md rules R150 to R152). -/

namespace Sys2Proof.Machine

/-- ENABLE (R150). -/
def execEnable (s : State) : Host.Outcome State Fault Refusal :=
  .next (finish (modeWriteOutcome s) (modeWrite .generate s))

/-- DISABLE (R151); the write is issued whatever the mode already is (R60). -/
def execDisable (s : State) : Host.Outcome State Fault Refusal :=
  .next (finish (modeWriteOutcome s) (modeWrite .measure s))

/-- TEARDOWN (R152): DISABLE's steps, then DESTROYED whatever came of them, then their outcome. Steps 2
and 3 come after step 1: where the transport never answers they are not reached (R197, log 5). -/
def execTeardown (s : State) : Host.Outcome State Fault Refusal :=
  .next <|
    match modeWriteOutcome s with
    | some r => respond r (setLife .destroyed (modeWrite .measure s))
    | none   => modeWrite .measure s

end Sys2Proof.Machine
end

