-- ==== Sys2Proof/Machine/ReservedOps.lean ====
section
/-! DEFINITION. The reserved selectors 6 and 7 (spec/30_encoding.md rule R74): accepted, no transaction, no state change, status Unsupported. -/

namespace Sys2Proof.Machine

/-- `op = 6` (R74, R172). -/
def execReserved6 (s : State) : Host.Outcome State Fault Refusal := .next (raise .unsupported s)

/-- `op = 7` (R74, R172). -/
def execReserved7 (s : State) : Host.Outcome State Fault Refusal := .next (raise .unsupported s)

end Sys2Proof.Machine
end

