-- ==== Sys2Proof/Machine/Dispatch.lean ====
section
/-! DEFINITION. What an accepted command does: one arm per row of spec/opcode_table.json. -/

namespace Sys2Proof.Machine

def exec (i : Instr) (s : State) : Host.Outcome State Fault Refusal :=
  match i with
  | .configure chan dutyNs periodNs => Sys2Proof.Machine.execConfigure chan dutyNs periodNs s
  | .capture chan timeout => Sys2Proof.Machine.execCapture chan timeout s
  | .setPolarity => Sys2Proof.Machine.execSetPolarity s
  | .enable => Sys2Proof.Machine.execEnable s
  | .disable => Sys2Proof.Machine.execDisable s
  | .teardown => Sys2Proof.Machine.execTeardown s
  | .reserved6 => Sys2Proof.Machine.execReserved6 s
  | .reserved7 => Sys2Proof.Machine.execReserved7 s

end Sys2Proof.Machine
end

