-- ==== Sys2Proof/Machine/Step.lean ====
section
/-! DEFINITION. One step of the machine, and how a command word is placed before it (spec/30_encoding.md rule R70; spec/00_scope.md rules R12, R13). -/

namespace Sys2Proof.Machine

/-- One move of the block and its host; an accepted command runs to its response in that one step (R13). -/
def step (s : State) : Host.Outcome State Fault Refusal := handshake exec s

/-- `s` with the command word `w` presented next, to a block that accepts it, so that the very next step
runs exactly it. PWMCTL has no program memory (R25, R59): the host's list of moves is where a program
stands (log 3). Bits above the command word's highest do not exist on the port (log 19). -/
def State.withFetchWord (s : State) (_nbits w : Nat) : State := presentNext w s

end Sys2Proof.Machine
end

