-- ==== Sys2Proof/Safety.lean ====
section
/-! DEFINITION. What counts as a safe run, over the event history and the block's state, in the terms claims use (spec/20_memory.md rule R45; spec/10_state.md rules R22, R28 to R31; spec/43_mode_ops.md rules R152, R156). -/

namespace Sys2Proof.Safety

open Sys2Proof.Machine

/-- The access table allows the transaction (R45). -/
def permitted (cfg : Config) : Event → Bool
  | .read addr _ _  => canRead cfg addr
  | .write addr _ _ => canWrite cfg addr

/-- The core has never accessed a register the access table forbids (R45). -/
def HistoryPermitted (s : State) : Prop := ∀ e ∈ s.history, permitted s.cfg e = true

/-- The transport has answered the transaction. -/
def answered : Event → Bool
  | .read _ _ answer  => answer.isSome
  | .write _ _ answer => answer.isSome

/-- The transaction was answered with a failure of this cause (R176). -/
def failedWith (cause : Nat) : Event → Bool
  | .read _ _ answer  => answer == some (.err cause)
  | .write _ _ answer => answer == some (.err cause)

/-- BUSY exactly between the acceptance of a command and the delivery of its response (R22, R70): while
IDLE nothing is pending and every request has been answered; while BUSY either a response waits, or the
last request alone has no answer and the block hangs (R197). -/
def HandshakeOk (s : State) : Prop :=
  (s.busy = .idle ∧ s.rsp = none ∧ ∀ e ∈ s.history, answered e = true) ∨
  (s.busy = .busy ∧ s.rsp ≠ none ∧ ∀ e ∈ s.history, answered e = true) ∨
  (s.busy = .busy ∧ s.rsp = none ∧ ∃ done last, s.history = done ++ [last] ∧
    answered last = false ∧ ∀ e ∈ done, answered e = true)

/-- The mode a byte selects, the two OPEN values being distinct (R28, R82). -/
def modeOfByte (cfg : Config) (value : Byte) : Mode :=
  if value = cfg.modeValGenerate then .generate else .measure

/-- The mode shadow is the target of the last successful mode write, or MEASURE if there was none since
reset (R156, for `MODE_UPDATE_ON_FAIL = false`). -/
def ShadowAgrees (s : State) : Prop :=
  s.mode = match lastWritten s.cfg.modeReg s.history with
    | some value => modeOfByte s.cfg value
    | none       => .measure

/-- A transaction some command issues: a channel register read or written, or one of the two mode bytes
written to the mode register (R30, R46, R82). -/
def TransactionLegal (cfg : Config) : Event → Prop
  | .read addr _ _      => 1 ≤ addr ∧ addr ≤ 6
  | .write addr value _ =>
      (1 ≤ addr ∧ addr ≤ 6) ∨
      (addr = 0 ∧ (value = cfg.modeValMeasure ∨ value = cfg.modeValGenerate))

/-- Every transaction since reset is one of those. -/
def TransactionsLegal (s : State) : Prop := ∀ e ∈ s.history, TransactionLegal s.cfg e

/-- A destroyed block's last transaction is the answered mode-reset write of its teardown (R152). -/
def TornDownByModeReset (s : State) : Prop :=
  s.life = .destroyed → ∃ earlier answer,
    s.history = earlier ++ [.write s.cfg.modeReg s.cfg.modeValMeasure (some answer)]

/-- The commands that touch the mode register. -/
def isModeCommand : Instr → Bool
  | .enable          => true
  | .disable         => true
  | .teardown        => true
  | .configure _ _ _ => false
  | .capture _ _     => false
  | .setPolarity     => false
  | .reserved6       => false
  | .reserved7       => false

end Sys2Proof.Safety
end

