-- ==== Sys2Proof/Certificates/Slice0/Obligations.lean ====
section
/-! DEFINITION. The statements for the provers, from the spec's numbered rules. "The model's choice" in a docstring marks what no rule states; a log entry is named there. -/

open Sys2Proof Sys2Proof.Machine Sys2Proof.Safety

/-! ### The access table -/

/-- R100: `can_read` is true exactly on the printed readable set, at every natural number, whatever the
parameters of R10. -/
def Obligations.CanReadExactlyTheReadableSet : Prop :=
  ∀ (cfg : Config) (addr : Nat), cfg.IsPwmctl →
    (canRead cfg addr = true ↔ (0x01 ≤ addr ∧ addr ≤ 0x06) ∨ addr = 0x0A ∨ addr = 0x0C)

/-- R101: `can_write` is true exactly on the printed writable set. -/
def Obligations.CanWriteExactlyTheWritableSet : Prop :=
  ∀ (cfg : Config) (addr : Nat), cfg.IsPwmctl →
    (canWrite cfg addr = true ↔ (0x00 ≤ addr ∧ addr ≤ 0x06) ∨ addr = 0x0B)

/-- R102 with R104: neither predicate consults the other's list, and both are false beyond
`MAX_REGISTER`. -/
def Obligations.AccessPredicatesIndependentAndTotal : Prop :=
  ∀ (cfg : Config) (ranges : List (Nat × Nat)) (addr : Nat),
    canRead { cfg with writeRanges := ranges } addr = canRead cfg addr ∧
    canWrite { cfg with readRanges := ranges } addr = canWrite cfg addr ∧
    (cfg.IsPwmctl → cfg.maxRegister < addr → canRead cfg addr = false ∧ canWrite cfg addr = false)

/-- R105: how many of the 256 addresses a port can spell fall in each class. -/
def Obligations.AccessClassCounts : Prop :=
  ∀ cfg : Config, cfg.IsPwmctl →
    let count c := ((List.range 256).filter fun a => accessClass cfg a == c).length
    count .both = 6 ∧ count .readOnly = 2 ∧ count .writeOnly = 2 ∧ count .neither = 246

/-! ### The unit converter -/

/-- R110: the two truncating steps and the test, on every unsigned input, and the source's two examples.
The port (`cv_value`, `cv_reject`) and its value 0 with reject are R80, the spec's own choice D20;
the port at other widths than 32 is the model's (log 20). -/
def Obligations.ForwardConversionFormula : Prop :=
  ∀ (cfg : Config), cfg.IsPwmctl →
    (∀ dutyNs : Nat, toDeviceUnit cfg dutyNs =
      if (10 * (dutyNs / 125)) / 1024 > 255 then none
      else some (BitVec.ofNat 8 ((10 * (dutyNs / 125)) / 1024))) ∧
    toDeviceUnit cfg 1250 = some 0 ∧ toDeviceUnit cfg 32000 = some 2 ∧
    (∀ port : BitVec cfg.dutyWidth, forwardPort cfg port =
      if (10 * (port.toNat / 125)) / 1024 > 255 then (0, true)
      else (BitVec.ofNat 8 ((10 * (port.toNat / 125)) / 1024), false))

/-- R113: rejection exactly from 3,276,875 ns on, and an accepted value is the full-width one, never a
clamp or a truncation of it (R118). -/
def Obligations.ForwardRejectsAndNeverClamps : Prop :=
  ∀ (cfg : Config) (dutyNs : Nat), cfg.IsPwmctl →
    (toDeviceUnit cfg dutyNs = none ↔ 3276875 ≤ dutyNs) ∧
    (∀ value, toDeviceUnit cfg dutyNs = some value → value.toNat = (10 * (dutyNs / 125)) / 1024)

/-- R111 (a): `value = v` for exactly the inputs from `lo(v)` to `lo(v+1) - 1`. -/
def Obligations.ForwardThresholds : Prop :=
  ∀ (cfg : Config) (dutyNs : Nat) (value : Byte), cfg.IsPwmctl →
    (toDeviceUnit cfg dutyNs = some value ↔
      smallestInput value.toNat ≤ dutyNs ∧ dutyNs < smallestInput (value.toNat + 1))

/-- R117: the conversion is monotone on encodable inputs, and so is the unrestricted value, whence what
is rejected stays rejected above. -/
def Obligations.ForwardMonotone : Prop :=
  ∀ (cfg : Config) (m n : Nat), cfg.IsPwmctl → m < n →
    (∀ v w, toDeviceUnit cfg m = some v → toDeviceUnit cfg n = some w → v.toNat ≤ w.toNat) ∧
    deviceValue cfg m ≤ deviceValue cfg n ∧
    (toDeviceUnit cfg m = none → toDeviceUnit cfg n = none)

/-- R114: the reverse formula at every byte and its corners; and the port (`cv_ns`, R80), which shows the
whole result at every width of at least 22 bits (R116); the port at other widths than 32 is the model's
(logs 20 and 21). -/
def Obligations.ReverseConversionFormula : Prop :=
  ∀ (cfg : Config), cfg.IsPwmctl →
    (∀ value : Byte, fromDeviceUnit cfg value = ((value.toNat * 1024) * 125) / 10) ∧
    fromDeviceUnit cfg 0 = 0 ∧ fromDeviceUnit cfg 2 = 25600 ∧ fromDeviceUnit cfg 255 = 3264000 ∧
    (22 ≤ cfg.dutyWidth →
      ∀ raw : Byte, (reversePort cfg raw).toNat = fromDeviceUnit cfg raw)

/-- R115, R116: the division never truncates, one device unit is 12,800 ns, and the largest result fits
22 bits. -/
def Obligations.ReverseIsExactMultiple : Prop :=
  ∀ (cfg : Config) (value : Byte), cfg.IsPwmctl →
    fromDeviceUnit cfg value = 12800 * value.toNat ∧ fromDeviceUnit cfg value ≤ 3264000

/-- R120: nanoseconds to device unit and back never overshoots and loses at most 12,899 ns, a loss
reached first at 38,499 ns. -/
def Obligations.RoundTripFromNanoseconds : Prop :=
  ∀ (cfg : Config) (x : Nat) (v : Byte), cfg.IsPwmctl → toDeviceUnit cfg x = some v →
    fromDeviceUnit cfg v ≤ x ∧ x - fromDeviceUnit cfg v ≤ 12899 ∧
    (x - fromDeviceUnit cfg v = 12899 → 38499 ≤ x) ∧
    (x = 38499 → x - fromDeviceUnit cfg v = 12899)

/-- R121: device unit to nanoseconds and back keeps the multiples of 5 and lowers every other value by
one; no such input is rejected. -/
def Obligations.RoundTripFromDeviceUnit : Prop :=
  ∀ (cfg : Config) (v : Byte), cfg.IsPwmctl →
    toDeviceUnit cfg (fromDeviceUnit cfg v) =
      some (if v.toNat % 5 = 0 then v else BitVec.ofNat 8 (v.toNat - 1))

/-- R133 with R80 (D20): the channel is compared in full before the sum is formed; the demultiplexer's
and the validator's ports, the former at other widths than 8 the model's (log 20). -/
def Obligations.ChannelCheckedBeforeAddress : Prop :=
  ∀ (cfg : Config), cfg.IsPwmctl →
    (∀ chan : Nat, channelAddress cfg chan = if chan < 6 then some (0x01 + chan) else none) ∧
    (∀ chan : BitVec cfg.chanWidth, demuxPort cfg chan =
      if chan.toNat < 6 then (BitVec.ofNat 8 (0x01 + chan.toNat), false) else (0x00, true)) ∧
    (∀ addr : Byte, accessPort cfg addr = (canRead cfg addr.toNat, canWrite cfg addr.toNat))

/-! ### Encodings -/

/-- R71, R72, R83 (the spec's own encoding, D3; at other widths than the default the model's choice,
log 20): every operand at every value the word can carry comes back. -/
def Obligations.DecodeOfEncodeIsIdentity : Prop :=
  ∀ (c : Config) (i : Instr), i.wf c = true → decode c (encode c i) = i

/-- R72, R73 (D3): every command word is a well-formed command. That encoding it gives back exactly the
bits the command reads, with every ignored field 0, and that CONFIGURE's `period_ns`, which R72 lists as
ignored, counts among the bits read, is the model's choice (log 12), as is the layout at other widths than the
default (log 20). -/
def Obligations.EncodeOfDecodeKeepsTheReadBits : Prop :=
  ∀ (c : Config) (w : CmdWord c),
    (decode c w).wf c = true ∧ encode c (decode c w) = w &&& readMask c (decode c w)

/-- R72 (D3): an ignored field may hold any value: words that agree on the bits a command reads are the
same command. CONFIGURE's `period_ns` is left out: R72 lists it as ignored and the decoder keeps it, the
model's choice (log 12); that it has no effect is `ConfigurePeriodIgnored`. The layout at
other widths than the default is the model's too (log 20). -/
def Obligations.IgnoredFieldsNeverDecoded : Prop :=
  ∀ (c : Config) (w w' : CmdWord c),
    w &&& readMask c (decode c w) = w' &&& readMask c (decode c w) → decode c w' = decode c w

/-- R71, R72 (D3): words written out from the spec's layout, one for each selector. -/
def Obligations.SpecWordsDecodeAsWritten : Prop :=
  decode Config.default 0x0020016E36001312D0000000000 = .configure 2 1500000 20000000 ∧
  decode Config.default 0x1050000000000000000000003E8 = .capture 5 1000 ∧
  decode Config.default 0x2FFFFFFFFFFFFFFFFFFFFFFFFFF = .setPolarity ∧
  decode Config.default 0x300000000000000000000000000 = .enable ∧
  decode Config.default 0x400000000000000000000000000 = .disable ∧
  decode Config.default 0x500000000000000000000000000 = .teardown ∧
  decode Config.default 0x600000000000000000000000000 = .reserved6 ∧
  decode Config.default 0x7FFFFFFFFFFFFFFFFFFFFFFFFFF = .reserved7

/-- R75, R76 (D13, D15): the response word's four fields, at R75's positions with the default widths. The
model's choices: where the fields stand at other widths (log 20), and that a port too narrow carries the
low bits of a cause (log 11) or of a result (log 21). A CAPTURE's duty cycle and period stand each in its
own field; result fields and cause are 0 where R75 says so; the codes, of which 5, 6 and 7 never appear. -/
def Obligations.ResponseWordFields : Prop :=
  (∀ (c : Config) (r : Response),
    (responseWord c r).extractLsb' (c.terrWidth + c.dutyWidth + c.dutyWidth) 3 = statusCode r ∧
    (responseWord c r).extractLsb' (c.terrWidth + c.dutyWidth) c.dutyWidth =
      BitVec.ofNat c.dutyWidth (dutyResult r) ∧
    (responseWord c r).extractLsb' c.terrWidth c.dutyWidth =
      BitVec.ofNat c.dutyWidth (periodResult r) ∧
    (responseWord c r).extractLsb' 0 c.terrWidth = BitVec.ofNat c.terrWidth (causeField r)) ∧
  (∀ c : Config, c.HasDefaultWidths →
    c.terrWidth + c.dutyWidth + c.dutyWidth = 72 ∧ c.terrWidth + c.dutyWidth = 40 ∧
    c.terrWidth = 8 ∧ c.dutyWidth = 32) ∧
  (∀ d p, dutyResult (.captured d p) = d ∧ periodResult (.captured d p) = p) ∧
  (∀ r : Response, (statusCode r).toNat ≤ 4 ∧
    ((∀ d p, r ≠ .captured d p) → dutyResult r = 0 ∧ periodResult r = 0) ∧
    ((∀ e, r ≠ .error (.transportFailure e)) → causeField r = 0)) ∧
  statusCode .ok = 0 ∧ (∀ d p, statusCode (.captured d p) = 0) ∧
  statusCode (.error .outOfRange) = 1 ∧ statusCode (.error .permissionDenied) = 2 ∧
  statusCode (.error .unsupported) = 3 ∧
  (∀ e, statusCode (.error (.transportFailure e)) = 4 ∧
    causeField (.error (.transportFailure e)) = e)

/-- R77, R78 (D16): the request word's fields for a read and for a write, and what each answer word says,
at R77's and R78's positions with the default widths. The model's choices: where the fields stand at other
widths (log 20), and that the ports carry the low 8 and `TIMEOUT_W` bits of any address and timeout
(log 14). -/
def Obligations.TransportWordFields : Prop :=
  (∀ (c : Config) (addr timeout : Nat) (answer : Option ReadAnswer),
    let w := requestWord c (.read addr timeout answer)
    w.extractLsb' (c.timeoutWidth + 16) 1 = 0 ∧
    w.extractLsb' (c.timeoutWidth + 8) 8 = BitVec.ofNat 8 addr ∧
    w.extractLsb' c.timeoutWidth 8 = 0 ∧
    w.extractLsb' 0 c.timeoutWidth = BitVec.ofNat c.timeoutWidth timeout) ∧
  (∀ (c : Config) (addr : Nat) (value : Byte) (answer : Option WriteAnswer),
    let w := requestWord c (.write addr value answer)
    w.extractLsb' (c.timeoutWidth + 16) 1 = 1 ∧
    w.extractLsb' (c.timeoutWidth + 8) 8 = BitVec.ofNat 8 addr ∧
    w.extractLsb' c.timeoutWidth 8 = value ∧ w.extractLsb' 0 c.timeoutWidth = 0) ∧
  (∀ (c : Config) (w : XRspWord c),
    (w.getLsbD (c.terrWidth + 8) = true →
      readAnswerOf (xrspOfWord c w) = .err (w.extractLsb' 0 c.terrWidth).toNat ∧
      writeAnswerOf (xrspOfWord c w) = .err (w.extractLsb' 0 c.terrWidth).toNat) ∧
    (w.getLsbD (c.terrWidth + 8) = false →
      readAnswerOf (xrspOfWord c w) = .ok (w.extractLsb' c.terrWidth 8) ∧
      writeAnswerOf (xrspOfWord c w) = .ok)) ∧
  (∀ c : Config, c.HasDefaultWidths → c.timeoutWidth = 32 ∧ c.terrWidth = 8)

/-- R84 (D26): a command's text form reads back as the command; an omitted `period_ns` or `timeout` is
0; a reserved selector has no text form. That an operand wider than its field reads back too is the
model's choice (log 22). -/
def Obligations.TextFormReadsBack : Prop :=
  (∀ i : Instr, i ≠ .reserved6 → i ≠ .reserved7 →
    assemble (mnemonic i) (textOperands i) = some i) ∧
  (∀ chan dutyNs : Nat, assemble "CONFIGURE" [chan, dutyNs] = some (.configure chan dutyNs 0)) ∧
  (∀ chan : Nat, assemble "CAPTURE" [chan] = some (.capture chan 0)) ∧
  (∀ operands, assemble (mnemonic .reserved6) operands = none ∧
    assemble (mnemonic .reserved7) operands = none)

/-! ### The commands: results, completion and frame in one equation -/

/-- R130: CONFIGURE in every state: the two clean rejections, the permission error, and with an answering
transport one write and its outcome; what the tests come to with the fixed constants. Everything the
record does not name is unchanged. -/
def Obligations.ConfigureMeaning : Prop :=
  ∀ (s : State) (chan dutyNs periodNs : Nat),
    (s.cfg.maxChannels ≤ chan ∨ toDeviceUnit s.cfg dutyNs = none →
      exec (.configure chan dutyNs periodNs) s =
        .next { s with rsp := some (.error .outOfRange) }) ∧
    (∀ value, chan < s.cfg.maxChannels → toDeviceUnit s.cfg dutyNs = some value →
      (canWrite s.cfg (s.cfg.baseChannelReg + chan) = false →
        exec (.configure chan dutyNs periodNs) s =
          .next { s with rsp := some (.error .permissionDenied) }) ∧
      (canWrite s.cfg (s.cfg.baseChannelReg + chan) = true → ∀ x, nextAnswer s = some x →
        exec (.configure chan dutyNs periodNs) s =
          .next { consumeAnswer s with
            history := s.history ++ [.write (s.cfg.baseChannelReg + chan) value
              (some (if x.err then .err x.terr else .ok))],
            rsp := some (if x.err then .error (.transportFailure x.terr) else .ok) })) ∧
    (s.cfg.IsPwmctl →
      s.cfg.maxChannels = 6 ∧ s.cfg.baseChannelReg = 0x01 ∧
      (toDeviceUnit s.cfg dutyNs = none ↔ 3276875 ≤ dutyNs) ∧
      (chan < 6 → canWrite s.cfg (s.cfg.baseChannelReg + chan) = true))

/-- R131: CAPTURE in every state: range error, permission error, and with an answering transport one
read, its timeout passed on, and the converted byte with the fixed period. -/
def Obligations.CaptureMeaning : Prop :=
  ∀ (s : State) (chan timeout : Nat),
    (s.cfg.maxChannels ≤ chan →
      exec (.capture chan timeout) s = .next { s with rsp := some (.error .outOfRange) }) ∧
    (chan < s.cfg.maxChannels → canRead s.cfg (s.cfg.baseChannelReg + chan) = false →
      exec (.capture chan timeout) s = .next { s with rsp := some (.error .permissionDenied) }) ∧
    (chan < s.cfg.maxChannels → canRead s.cfg (s.cfg.baseChannelReg + chan) = true →
      ∀ x, nextAnswer s = some x →
        exec (.capture chan timeout) s =
          .next { consumeAnswer s with
            history := s.history ++ [.read (s.cfg.baseChannelReg + chan) timeout
              (some (if x.err then .err x.terr else .ok x.rdata))],
            rsp := some (if x.err then .error (.transportFailure x.terr)
              else .captured (fromDeviceUnit s.cfg x.rdata) s.cfg.periodNs) }) ∧
    (s.cfg.IsPwmctl →
      s.cfg.maxChannels = 6 ∧ s.cfg.baseChannelReg = 0x01 ∧ s.cfg.periodNs = 20000000 ∧
      (∀ raw, fromDeviceUnit s.cfg raw = 12800 * raw.toNat) ∧
      (chan < 6 → canRead s.cfg (s.cfg.baseChannelReg + chan) = true))

/-- R132: SET_POLARITY is Unsupported in every state, with no transaction and no change but the response,
whatever its ignored fields hold, and is accepted only while LIVE. Where the selector stands at other
widths than the default is the model's (log 20). -/
def Obligations.SetPolarityAlwaysUnsupported : Prop :=
  (∀ s : State, exec .setPolarity s = .next { s with rsp := some (.error .unsupported) }) ∧
  (∀ (c : Config) (w : CmdWord c), w.extractLsb' c.opLo 3 = 2 → decode c w = .setPolarity) ∧
  (∀ (s t : State) (w : Nat) (rest : List HostMove),
    (portWord s.cfg w).extractLsb' s.cfg.opLo 3 = 2 →
    s.host = .present w :: rest → step s = .next t → t.host = rest → s.life = .live)

/-- R74 (the spec's own choice, D12; log 10): the reserved selectors are Unsupported, with no transaction
and no change but the response. -/
def Obligations.ReservedSelectorsUnsupported : Prop :=
  ∀ s : State,
    exec .reserved6 s = .next { s with rsp := some (.error .unsupported) } ∧
    exec .reserved7 s = .next { s with rsp := some (.error .unsupported) }

/-- R150 with R155 and R156 (D19, D9): ENABLE in every state with an answering transport. -/
def Obligations.EnableMeaning : Prop :=
  ∀ (s : State),
    (canWrite s.cfg s.cfg.modeReg = false →
      exec .enable s = .next { s with rsp := some (.error .permissionDenied) }) ∧
    (canWrite s.cfg s.cfg.modeReg = true → ∀ x, nextAnswer s = some x →
      exec .enable s =
        .next { consumeAnswer s with
          history := s.history ++ [.write s.cfg.modeReg s.cfg.modeValGenerate
            (some (if x.err then .err x.terr else .ok))],
          mode := if x.err = true ∧ s.cfg.modeUpdateOnFail = false then s.mode else .generate,
          rsp := some (if x.err then .error (.transportFailure x.terr) else .ok) }) ∧
    (s.cfg.IsPwmctl → s.cfg.modeReg = 0x00 ∧ canWrite s.cfg s.cfg.modeReg = true)

/-- R151 with R155 and R156 (D19, D9): DISABLE in every state with an answering transport; the write is
issued whatever the mode was. -/
def Obligations.DisableMeaning : Prop :=
  ∀ (s : State),
    (canWrite s.cfg s.cfg.modeReg = false →
      exec .disable s = .next { s with rsp := some (.error .permissionDenied) }) ∧
    (canWrite s.cfg s.cfg.modeReg = true → ∀ x, nextAnswer s = some x →
      exec .disable s =
        .next { consumeAnswer s with
          history := s.history ++ [.write s.cfg.modeReg s.cfg.modeValMeasure
            (some (if x.err then .err x.terr else .ok))],
          mode := if x.err = true ∧ s.cfg.modeUpdateOnFail = false then s.mode else .measure,
          rsp := some (if x.err then .error (.transportFailure x.terr) else .ok) }) ∧
    (s.cfg.IsPwmctl → s.cfg.modeReg = 0x00 ∧ canWrite s.cfg s.cfg.modeReg = true)

/-- R152 (D11): TEARDOWN in every state with an answering transport: DISABLE's steps, DESTROYED whatever
came of them, and their outcome reported. -/
def Obligations.TeardownMeaning : Prop :=
  ∀ (s : State),
    (canWrite s.cfg s.cfg.modeReg = false →
      exec .teardown s =
        .next { s with life := .destroyed, rsp := some (.error .permissionDenied) }) ∧
    (canWrite s.cfg s.cfg.modeReg = true → ∀ x, nextAnswer s = some x →
      exec .teardown s =
        .next { consumeAnswer s with
          history := s.history ++ [.write s.cfg.modeReg s.cfg.modeValMeasure
            (some (if x.err then .err x.terr else .ok))],
          mode := if x.err = true ∧ s.cfg.modeUpdateOnFail = false then s.mode else .measure,
          life := .destroyed,
          rsp := some (if x.err then .error (.transportFailure x.terr) else .ok) })

/-! ### What holds of every command -/

/-- R135, R151, R152, R154, R21, R27: the frame of every command: what it leaves unchanged whatever its
outcome. Only ENABLE, DISABLE and TEARDOWN may change `mode`, only TEARDOWN `life`; no command touches
the configuration, the host's moves, the delivered responses or `busy`, and each only adds to the
history. -/
def Obligations.CommandFrame : Prop :=
  ∀ (i : Instr) (s t : State), exec i s = .next t →
    t.cfg = s.cfg ∧ t.busy = s.busy ∧ t.host = s.host ∧ t.responses = s.responses ∧
    (isModeCommand i = false → t.mode = s.mode) ∧
    (i ≠ .teardown → t.life = s.life) ∧
    s.history <+: t.history

/-- R138, R45, R48, R53: a command issues no transaction, and then no answer is used up, or exactly one,
which the access table permits. -/
def Obligations.AtMostOnePermittedTransaction : Prop :=
  ∀ (i : Instr) (s t : State), exec i s = .next t →
    (t.history = s.history ∧ t.answers = s.answers ∧ t.draws = s.draws) ∨
    (∃ e, t.history = s.history ++ [e] ∧ permitted s.cfg e = true ∧
      t.answers = (consumeAnswer s).answers ∧ t.draws = (consumeAnswer s).draws)

/-- R174: what an error leaves behind, with the fixed constants. Validation errors: no transaction and no
state changed. TransportFailure: one transaction, answered with that cause; the state unchanged for
CONFIGURE and CAPTURE, as R156 says for ENABLE and DISABLE, DESTROYED after TEARDOWN. -/
def Obligations.ErrorsArePrecise : Prop :=
  ∀ (i : Instr) (s t : State) (kind : ErrorKind), s.cfg.IsPwmctl → s.rsp = none →
    exec i s = .next t → t.rsp = some (.error kind) →
    ((∀ e, kind ≠ .transportFailure e) → t = { s with rsp := some (.error kind) }) ∧
    (∀ e, kind = .transportFailure e →
      (∃ ev, t.history = s.history ++ [ev] ∧ failedWith e ev = true) ∧
      (isModeCommand i = false → t.mode = s.mode ∧ t.life = s.life) ∧
      (i = .enable → t.life = s.life ∧
        t.mode = if s.cfg.modeUpdateOnFail then .generate else s.mode) ∧
      (i = .disable → t.life = s.life ∧
        t.mode = if s.cfg.modeUpdateOnFail then .measure else s.mode) ∧
      (i = .teardown → t.life = .destroyed ∧
        t.mode = if s.cfg.modeUpdateOnFail then .measure else s.mode))

/-- R173, R46: with the fixed constants PermissionDenied is never produced. -/
def Obligations.PermissionDeniedNeverProduced : Prop :=
  ∀ (i : Instr) (s t : State), s.cfg.IsPwmctl → s.rsp = none → exec i s = .next t →
    t.rsp ≠ some (.error .permissionDenied)

/-- R122, R131: a response with result fields comes from CAPTURE alone, its period is 20,000,000 whatever
the channel and the state, and its duty cycle is 12,800 times the byte that was read. -/
def Obligations.CapturedPeriodIsFixed : Prop :=
  ∀ (i : Instr) (s t : State) (dutyCycleNs periodNs : Nat), s.cfg.IsPwmctl → s.rsp = none →
    exec i s = .next t → t.rsp = some (.captured dutyCycleNs periodNs) →
    periodNs = 20000000 ∧ ∃ chan timeout raw, i = .capture chan timeout ∧
      dutyCycleNs = 12800 * raw.toNat ∧
      t.history = s.history ++ [.read (0x01 + chan) timeout (some (.ok raw))]

/-- R20, R135, R154: `mode` is read by no command: started in another mode, every command issues the same
transaction and gives the same response and lifecycle; the mode itself differs only where the command
leaves it alone, and after a successful mode command not at all. -/
def Obligations.ModeIsReadByNoCommand : Prop :=
  ∀ (i : Instr) (s : State) (m : Mode), ∃ t t',
    exec i s = .next t ∧ exec i { s with mode := m } = .next t' ∧
    t' = { t with mode := t'.mode } ∧
    (isModeCommand i = false → t'.mode = m) ∧
    (isModeCommand i = true → t.rsp = some .ok → s.rsp = none → t'.mode = t.mode)

/-- R136 (D18): `period_ns` has no effect whatever. -/
def Obligations.ConfigurePeriodIgnored : Prop :=
  ∀ (chan dutyNs p p' : Nat) (s : State),
    exec (.configure chan dutyNs p) s = exec (.configure chan dutyNs p') s

/-- R137, R50: no timeout changes what CAPTURE does, apart from appearing in the read request. -/
def Obligations.CaptureTimeoutOnlyPassedOn : Prop :=
  ∀ (chan timeout timeout' : Nat) (s t t' : State),
    exec (.capture chan timeout) s = .next t → exec (.capture chan timeout') s = .next t' →
    { t with history := [] } = { t' with history := [] } ∧
    (∀ addr given answer, t.history = s.history ++ [.read addr given answer] →
      given = timeout ∧ t'.history = s.history ++ [.read addr timeout' answer])

/-- R197, with R130, R131, R150 to R152: a command that passes its checks and whose request is never
answered leaves exactly that request in the history, with no answer, and changes nothing else; and no
command does otherwise. That mode and lifecycle stay, TEARDOWN's included, is the model's choice
(log 5). -/
def Obligations.UnansweredRequestHangs : Prop :=
  ∀ s : State, nextAnswer s = none →
    (∀ (chan dutyNs periodNs : Nat) (value : Byte), chan < s.cfg.maxChannels →
      toDeviceUnit s.cfg dutyNs = some value →
      canWrite s.cfg (s.cfg.baseChannelReg + chan) = true →
      exec (.configure chan dutyNs periodNs) s = .next { consumeAnswer s with
        history := s.history ++ [.write (s.cfg.baseChannelReg + chan) value none] }) ∧
    (∀ chan timeout : Nat, chan < s.cfg.maxChannels →
      canRead s.cfg (s.cfg.baseChannelReg + chan) = true →
      exec (.capture chan timeout) s = .next { consumeAnswer s with
        history := s.history ++ [.read (s.cfg.baseChannelReg + chan) timeout none] }) ∧
    (canWrite s.cfg s.cfg.modeReg = true →
      exec .enable s = .next { consumeAnswer s with
        history := s.history ++ [.write s.cfg.modeReg s.cfg.modeValGenerate none] } ∧
      exec .disable s = .next { consumeAnswer s with
        history := s.history ++ [.write s.cfg.modeReg s.cfg.modeValMeasure none] } ∧
      exec .teardown s = .next { consumeAnswer s with
        history := s.history ++ [.write s.cfg.modeReg s.cfg.modeValMeasure none] }) ∧
    (∀ (i : Instr) (t : State), exec i s = .next t →
      (t.rsp = s.rsp ∧ t.mode = s.mode ∧ t.life = s.life ∧
        ∃ e, t.history = s.history ++ [e] ∧ answered e = false) ∨
      (t.history = s.history ∧ ∃ kind, t.rsp = some (.error kind)))

/-! ### The handshake -/

/-- R70, R72, R83 (D2, D3): the step runs the decoded command: while IDLE and LIVE the presented word is
accepted, leaves the host's list, makes the block BUSY, and is executed; the same of a word placed by
`withFetchWord`. The model's choices: that acceptance and execution are one step (log 4), `withFetchWord`
itself (log 3), and that a number's bits above the port's highest wire are dropped (log 19). -/
def Obligations.StepRunsTheDecodedCommand : Prop :=
  (∀ (s : State) (word : Nat) (rest : List HostMove),
    s.busy = .idle → s.life = .live → s.host = .present word :: rest →
    step s = exec (decode s.cfg (portWord s.cfg word)) { s with host := rest, busy := .busy }) ∧
  (∀ (s : State) (nbits w : Nat),
    step (s.withFetchWord nbits w) =
      exec (decode s.cfg (portWord s.cfg w)) { s with busy := .busy, life := .live, rsp := none })

/-- R70, R178 (D2): a pending response is delivered, the block is IDLE again, and nothing else changes. That
the delivery is a step of its own, which the host never holds up, is the model's choice (log 4). -/
def Obligations.PendingResponseIsDelivered : Prop :=
  ∀ (s : State) (r : Response), s.busy = .busy → s.rsp = some r →
    step s = .next { s with responses := s.responses ++ [r], rsp := none, busy := .idle }

/-- R70, R197: with an answering transport, a command presented to a ready block is answered by exactly
one response, after which the block is IDLE; it takes the command and nothing else off the host's list.
That this takes two steps, the run and the delivery, is the model's cut (log 4). -/
def Obligations.AnsweredCommandRespondsInTwoSteps : Prop :=
  ∀ (s : State) (word : Nat) (rest : List HostMove) (x : XRsp),
    s.busy = .idle → s.life = .live → s.host = .present word :: rest → nextAnswer s = some x →
    ∃ t u r, step s = .next t ∧ step t = .next u ∧ t.rsp = some r ∧
      u.responses = s.responses ++ [r] ∧ u.rsp = none ∧ u.busy = .idle ∧ u.host = rest

/-- R70: a command is accepted only when `cmd_ready`, and then always. That its acceptance is the step which
also runs it is the model's cut (log 4). -/
def Obligations.AcceptedExactlyWhenReady : Prop :=
  ∀ (s : State) (word : Nat) (rest : List HostMove), s.host = .present word :: rest →
    (cmdReady s = true ↔ ∃ t, step s = .next t ∧ t.host = rest)

/-- R15, R197: the block does nothing on its own: IDLE with no host move, or hanging for a transport that
never answers, it stays as it is. R197 speaks of an agent that never steps; that waiting (log 8) and
hanging (log 5) are steps which answer the same state is the model's choice. -/
def Obligations.WaitingBlockDoesNotChange : Prop :=
  ∀ s : State,
    (s.busy = .idle → s.host = [] → step s = .next s) ∧
    (s.busy = .busy → s.rsp = none → (∀ rest, s.host ≠ .reset :: rest) → step s = .next s)

/-- R153 (D11, U4): a command presented to a destroyed block is not accepted, and whatever step a destroyed
block does take, short of a reset, changes neither its mode, its lifecycle, the history nor the host's
moves; it may still deliver TEARDOWN's own response. That R153's "no step" is the fault
`stuckAfterTeardown` is the model's choice (log 6). -/
def Obligations.DestroyedBlockAcceptsNothing : Prop :=
  (∀ (s : State) (word : Nat) (rest : List HostMove),
    s.busy = .idle → s.life = .destroyed → s.host = .present word :: rest →
    step s = .fault .stuckAfterTeardown) ∧
  (∀ s t : State, s.life = .destroyed → step s = .next t →
    (∃ rest, s.host = .reset :: rest ∧ s.busy = .idle) ∨
    (t.life = .destroyed ∧ t.mode = s.mode ∧ t.history = s.history ∧ t.host = s.host))

/-- R190, R191, R192 (D21; log 7, log 9): what a reset move does, and that the model refuses one with a
command hanging in flight. -/
def Obligations.ResetMove : Prop :=
  ∀ (s : State) (rest : List HostMove), s.host = .reset :: rest →
    (s.busy = .idle → step s = .next { s with
      host := rest, mode := .measure, life := .live, busy := .idle, rsp := none,
      history := [], responses := [] }) ∧
    (s.busy = .busy → s.rsp = none → step s = .refused .resetInFlight)

/-- R33, R20 to R22, R191: the reset values the spec gives, and what the outputs show then: `mode_o` and
`life_o` by R79, `cmd_ready`, `rsp_valid` and `rsp` by R70 and R75. Those codes and signals are the spec's own
choices (D2, D10, D11). -/
def Obligations.ResetValues : Prop :=
  State.reset.mode = .measure ∧ State.reset.life = .live ∧ State.reset.busy = .idle ∧
  State.reset.rsp = none ∧ State.reset.history = [] ∧ State.reset.responses = [] ∧
  State.reset.cfg.IsPwmctl ∧
  modeOutput State.reset = 0 ∧ lifeOutput State.reset = 0 ∧ cmdReady State.reset = true ∧
  rspValid State.reset = false ∧ rspOutput State.reset = none

/-! ### Rules of the whole machine -/

/-- R20, R154: the mode goes to GENERATE only through an accepted ENABLE. -/
def Obligations.GenerateOnlyByEnable : Prop :=
  ∀ s t : State, s.mode = .measure → step s = .next t → t.mode = .generate →
    ∃ word rest, s.host = .present word :: rest ∧
      decode s.cfg (portWord s.cfg word) = .enable ∧ cmdReady s = true

/-- R21, R190: the lifecycle flag goes to DESTROYED only through an accepted TEARDOWN, and back to LIVE
only through reset. -/
def Obligations.LifeChangesOnlyByTeardownAndReset : Prop :=
  ∀ s t : State, step s = .next t →
    (s.life = .live → t.life = .destroyed →
      ∃ word rest, s.host = .present word :: rest ∧
        decode s.cfg (portWord s.cfg word) = .teardown ∧ cmdReady s = true) ∧
    (s.life = .destroyed → t.life = .live → ∃ rest, s.host = .reset :: rest)

/-- R27, R103, R56: no step changes a constant, an access list or an OPEN parameter, and short of a reset
the history and the delivered responses only grow. -/
def Obligations.ConfigurationNeverChanges : Prop :=
  ∀ s t : State, step s = .next t →
    t.cfg = s.cfg ∧
    ((∃ rest, s.host = .reset :: rest) ∨
      (s.history <+: t.history ∧ s.responses <+: t.responses))

/-- R45: the core never accesses a register the access table forbids: every step keeps it, whatever the
lists. -/
def Obligations.StepKeepsHistoryPermitted : Prop :=
  ∀ s t : State, HistoryPermitted s → step s = .next t → HistoryPermitted t

/-- R22, R70: BUSY exactly from acceptance to delivery: every step keeps it. The third case, BUSY with no
response and exactly the last request unanswered, is R197's hang as the model writes it (log 5). -/
def Obligations.StepKeepsHandshake : Prop :=
  ∀ s t : State, HandshakeOk s → step s = .next t → HandshakeOk t

/-- R156, first reading (`MODE_UPDATE_ON_FAIL = false`): the mode shadow equals the target of the last
successful mode write, or MEASURE: every step keeps it, for any two distinct mode bytes (the constraint
of R10, part of `IsPwmctl`). -/
def Obligations.StepKeepsShadowAgreement : Prop :=
  ∀ s t : State, s.cfg.IsPwmctl → s.cfg.modeUpdateOnFail = false →
    ShadowAgrees s → step s = .next t → ShadowAgrees t

/-- R30, R46, R82: with the fixed constants the block only ever reads and writes channel registers and
writes one of the two mode bytes to the mode register: every step keeps it. -/
def Obligations.StepKeepsTransactionsLegal : Prop :=
  ∀ s t : State, s.cfg.IsPwmctl → TransactionsLegal s → step s = .next t → TransactionsLegal t

/-- R152, R153: a destroyed block's last transaction is its one mode-reset write: every step keeps it.
That the write is an answered one rests on the model's choice that a TEARDOWN without an answer stays
LIVE (log 5). -/
def Obligations.StepKeepsTeardownModeReset : Prop :=
  ∀ s t : State, s.cfg.IsPwmctl → TornDownByModeReset s → step s = .next t →
    TornDownByModeReset t

/-- The five invariants hold at reset (R33, R191). -/
def Obligations.ResetMeetsTheInvariants : Prop :=
  HistoryPermitted State.reset ∧ HandshakeOk State.reset ∧ ShadowAgrees State.reset ∧
  TransactionsLegal State.reset ∧ TornDownByModeReset State.reset

/-- R157: ENABLE then DISABLE, both writes successful: the mode ends MEASURE and the history gains exactly
two writes to the mode register, of different values, whatever bits the two words' ignored fields hold and
wherever the two answers come from. The two OK responses are R150's, R151's and R70's; that the run takes
four steps, an acceptance and a delivery for each command, is the model's cut (log 4). -/
def Obligations.EnableThenDisable : Prop :=
  ∀ (s : State) (w w' : Nat) (rest : List HostMove) (x x' : XRsp),
    s.cfg.IsPwmctl → s.busy = .idle → s.life = .live →
    decode s.cfg (portWord s.cfg w) = .enable → decode s.cfg (portWord s.cfg w') = .disable →
    s.host = .present w :: .present w' :: rest →
    nextAnswer s = some x → nextAnswer (consumeAnswer s) = some x' →
    x.err = false → x'.err = false →
    ∃ t : State, Host.Core.run Sys2Proof.core 4 s = .next t ∧ t.mode = .measure ∧
      t.history = s.history ++ [.write 0x00 s.cfg.modeValGenerate (some .ok),
        .write 0x00 s.cfg.modeValMeasure (some .ok)] ∧
      s.cfg.modeValGenerate ≠ s.cfg.modeValMeasure ∧
      t.responses = s.responses ++ [.ok, .ok]

/-! ### Outputs and bit positions -/

/-- R79 (D10, D11), R70 (D2), R75 (D13): what the always valid outputs and the handshake show, in every
state; and the response the block shows while it waits is the one it delivers (log 4). -/
def Obligations.OutputsShowTheState : Prop :=
  ∀ s : State,
    (modeOutput s = 0 ↔ s.mode = .measure) ∧ (modeOutput s = 1 ↔ s.mode = .generate) ∧
    (lifeOutput s = 0 ↔ s.life = .live) ∧ (lifeOutput s = 1 ↔ s.life = .destroyed) ∧
    (cmdReady s = true ↔ s.busy = .idle ∧ s.life = .live) ∧
    (rspValid s = true ↔ s.rsp ≠ none) ∧ (s.rsp = none → rspOutput s = none) ∧
    (∀ r, s.rsp = some r → rspOutput s = some (responseWord s.cfg r)) ∧
    (∀ t, s.busy = .busy → rspValid s = true → step s = .next t →
      ∃ r, rspOutput s = some (responseWord s.cfg r) ∧ t.responses = s.responses ++ [r] ∧
        rspValid t = false)

/-- R71, R72, R83 (the spec's own layout, D3): at the default widths every number below 2^107 is the
command that the printed bit positions say, read by division alone. -/
def Obligations.FieldsAtThePrintedPositions : Prop :=
  ∀ (c : Config) (w : Nat), c.HasDefaultWidths → w < 2 ^ 107 →
    decodeNumber c w = .ok (match w / 2 ^ 104 with
      | 0 => .configure (w / 2 ^ 96 % 2 ^ 8) (w / 2 ^ 64 % 2 ^ 32) (w / 2 ^ 32 % 2 ^ 32)
      | 1 => .capture (w / 2 ^ 96 % 2 ^ 8) (w % 2 ^ 32)
      | 2 => .setPolarity
      | 3 => .enable
      | 4 => .disable
      | 5 => .teardown
      | 6 => .reserved6
      | _ => .reserved7)
end

