-- ==== Sys2Proof/Laws/Decode.lean ====
section
/-! SUPPORT. The bits of the command word, and the fields and the selector read back from it. -/

namespace Sys2Proof

theorem fitsWidth_iff (n v : Nat) : fitsWidth n v = true ↔ v < 2 ^ n := by
  simp [fitsWidth]

/-- A field is within its width. -/
theorem cmdField_lt {n : Nat} (w : BitVec n) (lo width : Nat) : cmdField w lo width < 2 ^ width :=
  (w.extractLsb' lo width).isLt

/-- Every bit of `{op, chan, duty_ns, period_ns, timeout}`. -/
theorem getLsbD_cmdWord (c : Config) (op : BitVec 3) (chan dutyNs periodNs timeout n : Nat) :
    (cmdWord c op chan dutyNs periodNs timeout).getLsbD n =
      if n < c.periodLo then timeout.testBit n
      else if n < c.dutyLo then periodNs.testBit (n - c.periodLo)
      else if n < c.chanLo then dutyNs.testBit (n - c.dutyLo)
      else if n < c.opLo then chan.testBit (n - c.chanLo)
      else op.getLsbD (n - c.opLo) := by
  simp only [cmdWord, BitVec.getLsbD_append, BitVec.getLsbD_ofNat, Config.periodLo, Config.dutyLo,
    Config.chanLo, Config.opLo, Nat.sub_sub]
  grind

/-- One bit of a field is one bit of the word. -/
theorem testBit_cmdField {n : Nat} (w : BitVec n) (lo width i : Nat) :
    (cmdField w lo width).testBit i = (decide (i < width) && w.getLsbD (lo + i)) := by
  rw [cmdField, BitVec.testBit_toNat, BitVec.getLsbD_extractLsb']

theorem chanField_cmdWord (c : Config) (op : BitVec 3) (chan dutyNs periodNs timeout : Nat) :
    chanField c (cmdWord c op chan dutyNs periodNs timeout) = chan % 2 ^ c.chanWidth := by
  apply Nat.eq_of_testBit_eq
  intro i
  rw [chanField, testBit_cmdField, getLsbD_cmdWord, Nat.testBit_mod_two_pow]
  grind

theorem dutyField_cmdWord (c : Config) (op : BitVec 3) (chan dutyNs periodNs timeout : Nat) :
    dutyField c (cmdWord c op chan dutyNs periodNs timeout) = dutyNs % 2 ^ c.dutyWidth := by
  apply Nat.eq_of_testBit_eq
  intro i
  rw [dutyField, testBit_cmdField, getLsbD_cmdWord, Nat.testBit_mod_two_pow]
  grind

theorem periodField_cmdWord (c : Config) (op : BitVec 3) (chan dutyNs periodNs timeout : Nat) :
    periodField c (cmdWord c op chan dutyNs periodNs timeout) = periodNs % 2 ^ c.dutyWidth := by
  apply Nat.eq_of_testBit_eq
  intro i
  rw [periodField, testBit_cmdField, getLsbD_cmdWord, Nat.testBit_mod_two_pow]
  grind

theorem timeoutField_cmdWord (c : Config) (op : BitVec 3) (chan dutyNs periodNs timeout : Nat) :
    timeoutField c (cmdWord c op chan dutyNs periodNs timeout) = timeout % 2 ^ c.timeoutWidth := by
  apply Nat.eq_of_testBit_eq
  intro i
  rw [timeoutField, testBit_cmdField, getLsbD_cmdWord, Nat.testBit_mod_two_pow]
  grind

/-- The bits above the fields are the selector's. -/
theorem getLsbD_cmdWord_op (c : Config) (op : BitVec 3) (chan dutyNs periodNs timeout i : Nat) :
    (cmdWord c op chan dutyNs periodNs timeout).getLsbD (c.opLo + i) = op.getLsbD i := by
  rw [getLsbD_cmdWord]
  grind

/-- The three bits decoding looks at are the selector's. -/
theorem selector_cmdWord (c : Config) (op : BitVec 3) (chan dutyNs periodNs timeout : Nat) :
    (cmdWord c op chan dutyNs periodNs timeout).getLsbD (c.opLo + 2) = op.getLsbD 2 ∧
    (cmdWord c op chan dutyNs periodNs timeout).getLsbD (c.opLo + 1) = op.getLsbD 1 ∧
    (cmdWord c op chan dutyNs periodNs timeout).getLsbD c.opLo = op.getLsbD 0 :=
  ⟨getLsbD_cmdWord_op .., getLsbD_cmdWord_op .., getLsbD_cmdWord_op (i := 0) ..⟩

end Sys2Proof
end

