-- ==== Sys2Proof/Laws/State.lean ====
section
/-! SUPPORT. One lemma per field per state update, true by rfl or by the update's one case split, so that no proof unfolds a record update. -/

namespace Sys2Proof.Machine

@[simp] theorem respond_cfg (r : Response) (s : State) : (respond r s).cfg = s.cfg := rfl
@[simp] theorem respond_mode (r : Response) (s : State) : (respond r s).mode = s.mode := rfl
@[simp] theorem respond_life (r : Response) (s : State) : (respond r s).life = s.life := rfl
@[simp] theorem respond_busy (r : Response) (s : State) : (respond r s).busy = s.busy := rfl
@[simp] theorem respond_rsp (r : Response) (s : State) : (respond r s).rsp = some r := rfl
@[simp] theorem respond_history (r : Response) (s : State) : (respond r s).history = s.history := rfl
@[simp] theorem respond_responses (r : Response) (s : State) : (respond r s).responses = s.responses := rfl
@[simp] theorem respond_host (r : Response) (s : State) : (respond r s).host = s.host := rfl
@[simp] theorem respond_answers (r : Response) (s : State) : (respond r s).answers = s.answers := rfl
@[simp] theorem respond_draws (r : Response) (s : State) : (respond r s).draws = s.draws := rfl

@[simp] theorem raise_cfg (kind : ErrorKind) (s : State) : (raise kind s).cfg = s.cfg := rfl
@[simp] theorem raise_mode (kind : ErrorKind) (s : State) : (raise kind s).mode = s.mode := rfl
@[simp] theorem raise_life (kind : ErrorKind) (s : State) : (raise kind s).life = s.life := rfl
@[simp] theorem raise_busy (kind : ErrorKind) (s : State) : (raise kind s).busy = s.busy := rfl
@[simp] theorem raise_rsp (kind : ErrorKind) (s : State) : (raise kind s).rsp = some (.error kind) := rfl
@[simp] theorem raise_history (kind : ErrorKind) (s : State) : (raise kind s).history = s.history := rfl
@[simp] theorem raise_responses (kind : ErrorKind) (s : State) : (raise kind s).responses = s.responses := rfl
@[simp] theorem raise_host (kind : ErrorKind) (s : State) : (raise kind s).host = s.host := rfl
@[simp] theorem raise_answers (kind : ErrorKind) (s : State) : (raise kind s).answers = s.answers := rfl
@[simp] theorem raise_draws (kind : ErrorKind) (s : State) : (raise kind s).draws = s.draws := rfl

@[simp] theorem record_cfg (e : Event) (s : State) : (record e s).cfg = s.cfg := rfl
@[simp] theorem record_mode (e : Event) (s : State) : (record e s).mode = s.mode := rfl
@[simp] theorem record_life (e : Event) (s : State) : (record e s).life = s.life := rfl
@[simp] theorem record_busy (e : Event) (s : State) : (record e s).busy = s.busy := rfl
@[simp] theorem record_rsp (e : Event) (s : State) : (record e s).rsp = s.rsp := rfl
@[simp] theorem record_history (e : Event) (s : State) : (record e s).history = s.history ++ [e] := rfl
@[simp] theorem record_responses (e : Event) (s : State) : (record e s).responses = s.responses := rfl
@[simp] theorem record_host (e : Event) (s : State) : (record e s).host = s.host := rfl
@[simp] theorem record_answers (e : Event) (s : State) : (record e s).answers = s.answers := rfl
@[simp] theorem record_draws (e : Event) (s : State) : (record e s).draws = s.draws := rfl

@[simp] theorem setMode_cfg (m : Mode) (s : State) : (setMode m s).cfg = s.cfg := rfl
@[simp] theorem setMode_mode (m : Mode) (s : State) : (setMode m s).mode = m := rfl
@[simp] theorem setMode_life (m : Mode) (s : State) : (setMode m s).life = s.life := rfl
@[simp] theorem setMode_busy (m : Mode) (s : State) : (setMode m s).busy = s.busy := rfl
@[simp] theorem setMode_rsp (m : Mode) (s : State) : (setMode m s).rsp = s.rsp := rfl
@[simp] theorem setMode_history (m : Mode) (s : State) : (setMode m s).history = s.history := rfl
@[simp] theorem setMode_responses (m : Mode) (s : State) : (setMode m s).responses = s.responses := rfl
@[simp] theorem setMode_host (m : Mode) (s : State) : (setMode m s).host = s.host := rfl
@[simp] theorem setMode_answers (m : Mode) (s : State) : (setMode m s).answers = s.answers := rfl
@[simp] theorem setMode_draws (m : Mode) (s : State) : (setMode m s).draws = s.draws := rfl

@[simp] theorem setLife_cfg (l : Life) (s : State) : (setLife l s).cfg = s.cfg := rfl
@[simp] theorem setLife_mode (l : Life) (s : State) : (setLife l s).mode = s.mode := rfl
@[simp] theorem setLife_life (l : Life) (s : State) : (setLife l s).life = l := rfl
@[simp] theorem setLife_busy (l : Life) (s : State) : (setLife l s).busy = s.busy := rfl
@[simp] theorem setLife_rsp (l : Life) (s : State) : (setLife l s).rsp = s.rsp := rfl
@[simp] theorem setLife_history (l : Life) (s : State) : (setLife l s).history = s.history := rfl
@[simp] theorem setLife_responses (l : Life) (s : State) : (setLife l s).responses = s.responses := rfl
@[simp] theorem setLife_host (l : Life) (s : State) : (setLife l s).host = s.host := rfl
@[simp] theorem setLife_answers (l : Life) (s : State) : (setLife l s).answers = s.answers := rfl
@[simp] theorem setLife_draws (l : Life) (s : State) : (setLife l s).draws = s.draws := rfl

@[simp] theorem acceptCommand_cfg (rest : List HostMove) (s : State) : (acceptCommand rest s).cfg = s.cfg := rfl
@[simp] theorem acceptCommand_mode (rest : List HostMove) (s : State) : (acceptCommand rest s).mode = s.mode := rfl
@[simp] theorem acceptCommand_life (rest : List HostMove) (s : State) : (acceptCommand rest s).life = s.life := rfl
@[simp] theorem acceptCommand_busy (rest : List HostMove) (s : State) : (acceptCommand rest s).busy = .busy := rfl
@[simp] theorem acceptCommand_rsp (rest : List HostMove) (s : State) : (acceptCommand rest s).rsp = s.rsp := rfl
@[simp] theorem acceptCommand_history (rest : List HostMove) (s : State) : (acceptCommand rest s).history = s.history := rfl
@[simp] theorem acceptCommand_responses (rest : List HostMove) (s : State) : (acceptCommand rest s).responses = s.responses := rfl
@[simp] theorem acceptCommand_host (rest : List HostMove) (s : State) : (acceptCommand rest s).host = rest := rfl
@[simp] theorem acceptCommand_answers (rest : List HostMove) (s : State) : (acceptCommand rest s).answers = s.answers := rfl
@[simp] theorem acceptCommand_draws (rest : List HostMove) (s : State) : (acceptCommand rest s).draws = s.draws := rfl

@[simp] theorem deliverResponse_cfg (r : Response) (s : State) : (deliverResponse r s).cfg = s.cfg := rfl
@[simp] theorem deliverResponse_mode (r : Response) (s : State) : (deliverResponse r s).mode = s.mode := rfl
@[simp] theorem deliverResponse_life (r : Response) (s : State) : (deliverResponse r s).life = s.life := rfl
@[simp] theorem deliverResponse_busy (r : Response) (s : State) : (deliverResponse r s).busy = .idle := rfl
@[simp] theorem deliverResponse_rsp (r : Response) (s : State) : (deliverResponse r s).rsp = none := rfl
@[simp] theorem deliverResponse_history (r : Response) (s : State) : (deliverResponse r s).history = s.history := rfl
@[simp] theorem deliverResponse_responses (r : Response) (s : State) : (deliverResponse r s).responses = s.responses ++ [r] := rfl
@[simp] theorem deliverResponse_host (r : Response) (s : State) : (deliverResponse r s).host = s.host := rfl
@[simp] theorem deliverResponse_answers (r : Response) (s : State) : (deliverResponse r s).answers = s.answers := rfl
@[simp] theorem deliverResponse_draws (r : Response) (s : State) : (deliverResponse r s).draws = s.draws := rfl

@[simp] theorem hostReset_cfg (rest : List HostMove) (s : State) : (hostReset rest s).cfg = s.cfg := rfl
@[simp] theorem hostReset_mode (rest : List HostMove) (s : State) : (hostReset rest s).mode = .measure := rfl
@[simp] theorem hostReset_life (rest : List HostMove) (s : State) : (hostReset rest s).life = .live := rfl
@[simp] theorem hostReset_busy (rest : List HostMove) (s : State) : (hostReset rest s).busy = .idle := rfl
@[simp] theorem hostReset_rsp (rest : List HostMove) (s : State) : (hostReset rest s).rsp = none := rfl
@[simp] theorem hostReset_history (rest : List HostMove) (s : State) : (hostReset rest s).history = [] := rfl
@[simp] theorem hostReset_responses (rest : List HostMove) (s : State) : (hostReset rest s).responses = [] := rfl
@[simp] theorem hostReset_host (rest : List HostMove) (s : State) : (hostReset rest s).host = rest := rfl
@[simp] theorem hostReset_answers (rest : List HostMove) (s : State) : (hostReset rest s).answers = s.answers := rfl
@[simp] theorem hostReset_draws (rest : List HostMove) (s : State) : (hostReset rest s).draws = s.draws := rfl

@[simp] theorem consumeAnswer_cfg (s : State) : (consumeAnswer s).cfg = s.cfg := by
  unfold consumeAnswer; split <;> rfl
@[simp] theorem consumeAnswer_mode (s : State) : (consumeAnswer s).mode = s.mode := by
  unfold consumeAnswer; split <;> rfl
@[simp] theorem consumeAnswer_life (s : State) : (consumeAnswer s).life = s.life := by
  unfold consumeAnswer; split <;> rfl
@[simp] theorem consumeAnswer_busy (s : State) : (consumeAnswer s).busy = s.busy := by
  unfold consumeAnswer; split <;> rfl
@[simp] theorem consumeAnswer_rsp (s : State) : (consumeAnswer s).rsp = s.rsp := by
  unfold consumeAnswer; split <;> rfl
@[simp] theorem consumeAnswer_history (s : State) : (consumeAnswer s).history = s.history := by
  unfold consumeAnswer; split <;> rfl
@[simp] theorem consumeAnswer_responses (s : State) : (consumeAnswer s).responses = s.responses := by
  unfold consumeAnswer; split <;> rfl
@[simp] theorem consumeAnswer_host (s : State) : (consumeAnswer s).host = s.host := by
  unfold consumeAnswer; split <;> rfl

@[simp] theorem memRead_cfg (addr timeout : Nat) (s : State) : (memRead addr timeout s).cfg = s.cfg := by
  simp [memRead]
@[simp] theorem memRead_mode (addr timeout : Nat) (s : State) : (memRead addr timeout s).mode = s.mode := by
  simp [memRead]
@[simp] theorem memRead_life (addr timeout : Nat) (s : State) : (memRead addr timeout s).life = s.life := by
  simp [memRead]
@[simp] theorem memRead_busy (addr timeout : Nat) (s : State) : (memRead addr timeout s).busy = s.busy := by
  simp [memRead]
@[simp] theorem memRead_rsp (addr timeout : Nat) (s : State) : (memRead addr timeout s).rsp = s.rsp := by
  simp [memRead]
@[simp] theorem memRead_history (addr timeout : Nat) (s : State) :
    (memRead addr timeout s).history = s.history ++ [.read addr timeout (readResult s)] := by
  simp [memRead]
@[simp] theorem memRead_responses (addr timeout : Nat) (s : State) : (memRead addr timeout s).responses = s.responses := by
  simp [memRead]
@[simp] theorem memRead_host (addr timeout : Nat) (s : State) : (memRead addr timeout s).host = s.host := by
  simp [memRead]
@[simp] theorem memRead_answers (addr timeout : Nat) (s : State) : (memRead addr timeout s).answers = (consumeAnswer s).answers := rfl
@[simp] theorem memRead_draws (addr timeout : Nat) (s : State) : (memRead addr timeout s).draws = (consumeAnswer s).draws := rfl

@[simp] theorem memWrite_cfg (addr : Nat) (value : Byte) (s : State) : (memWrite addr value s).cfg = s.cfg := by
  simp [memWrite]
@[simp] theorem memWrite_mode (addr : Nat) (value : Byte) (s : State) : (memWrite addr value s).mode = s.mode := by
  simp [memWrite]
@[simp] theorem memWrite_life (addr : Nat) (value : Byte) (s : State) : (memWrite addr value s).life = s.life := by
  simp [memWrite]
@[simp] theorem memWrite_busy (addr : Nat) (value : Byte) (s : State) : (memWrite addr value s).busy = s.busy := by
  simp [memWrite]
@[simp] theorem memWrite_rsp (addr : Nat) (value : Byte) (s : State) : (memWrite addr value s).rsp = s.rsp := by
  simp [memWrite]
@[simp] theorem memWrite_history (addr : Nat) (value : Byte) (s : State) :
    (memWrite addr value s).history = s.history ++ [.write addr value (writeResult s)] := by
  simp [memWrite]
@[simp] theorem memWrite_responses (addr : Nat) (value : Byte) (s : State) : (memWrite addr value s).responses = s.responses := by
  simp [memWrite]
@[simp] theorem memWrite_host (addr : Nat) (value : Byte) (s : State) : (memWrite addr value s).host = s.host := by
  simp [memWrite]
@[simp] theorem memWrite_answers (addr : Nat) (value : Byte) (s : State) : (memWrite addr value s).answers = (consumeAnswer s).answers := rfl
@[simp] theorem memWrite_draws (addr : Nat) (value : Byte) (s : State) : (memWrite addr value s).draws = (consumeAnswer s).draws := rfl

@[simp] theorem finish_cfg (outcome : Option Response) (s : State) : (finish outcome s).cfg = s.cfg := by
  cases outcome <;> rfl
@[simp] theorem finish_mode (outcome : Option Response) (s : State) : (finish outcome s).mode = s.mode := by
  cases outcome <;> rfl
@[simp] theorem finish_life (outcome : Option Response) (s : State) : (finish outcome s).life = s.life := by
  cases outcome <;> rfl
@[simp] theorem finish_busy (outcome : Option Response) (s : State) : (finish outcome s).busy = s.busy := by
  cases outcome <;> rfl
@[simp] theorem finish_history (outcome : Option Response) (s : State) : (finish outcome s).history = s.history := by
  cases outcome <;> rfl
@[simp] theorem finish_responses (outcome : Option Response) (s : State) : (finish outcome s).responses = s.responses := by
  cases outcome <;> rfl
@[simp] theorem finish_host (outcome : Option Response) (s : State) : (finish outcome s).host = s.host := by
  cases outcome <;> rfl
@[simp] theorem finish_answers (outcome : Option Response) (s : State) : (finish outcome s).answers = s.answers := by
  cases outcome <;> rfl
@[simp] theorem finish_draws (outcome : Option Response) (s : State) : (finish outcome s).draws = s.draws := by
  cases outcome <;> rfl

/-- What the transport says next does not depend on the block: only on the listed answers and the draws. -/
@[simp] theorem nextAnswer_acceptCommand (rest : List HostMove) (s : State) :
    nextAnswer (acceptCommand rest s) = nextAnswer s := rfl

end Sys2Proof.Machine
end

