-- ==== Sys2Proof/Laws/Ops.lean ====
section
/-! SUPPORT. One lemma per shared operation, saying everything it can do; proofs cite these and do not unfold the operation. -/

namespace Sys2Proof.Machine

/-- What a record that is PWMCTL's own holds, for every choice of R10's parameters. -/
theorem isPwmctl_constants {c : Config} (h : c.IsPwmctl) :
    c.maxRegister = 0x0C ∧ c.maxChannels = 6 ∧ c.modeReg = 0x00 ∧ c.baseChannelReg = 0x01 ∧
    c.denom = 125 ∧ c.scale = 10 ∧ c.shift = 10 ∧ c.devMax = 255 ∧ c.periodNs = 20000000 ∧
    c.readRanges = [(0x01, 0x06), (0x0A, 0x0A), (0x0C, 0x0C)] ∧
    c.writeRanges = [(0x00, 0x06), (0x0B, 0x0B)] := by
  rw [h.1]
  exact ⟨rfl, rfl, rfl, rfl, rfl, rfl, rfl, rfl, rfl, rfl, rfl⟩

@[simp] theorem finish_some (r : Response) (s : State) : finish (some r) s = respond r s := rfl
@[simp] theorem finish_none (s : State) : finish none s = s := rfl

/-- The answer to the next request is used up in one of two ways. -/
theorem consumeAnswer_cases (s : State) :
    (∃ a rest, s.answers = a :: rest ∧ nextAnswer s = a ∧
      consumeAnswer s = { s with answers := rest }) ∨
    (s.answers = [] ∧ nextAnswer s = Config.transportDraw s.draws ∧
      consumeAnswer s = { s with draws := s.draws + 1 }) := by
  obtain h | ⟨a, rest, h⟩ : s.answers = [] ∨ ∃ a rest, s.answers = a :: rest := by
    cases s.answers <;> simp
  · exact .inr ⟨h, by simp [nextAnswer, h], by simp [consumeAnswer, h]⟩
  · exact .inl ⟨a, rest, h, by simp [nextAnswer, h], by simp [consumeAnswer, h]⟩

@[simp] theorem readResult_none {s : State} (h : nextAnswer s = none) : readResult s = none := by
  simp [readResult, h]

@[simp] theorem writeResult_none {s : State} (h : nextAnswer s = none) : writeResult s = none := by
  simp [writeResult, h]

theorem readResult_some {s : State} {x : XRsp} (h : nextAnswer s = some x) :
    readResult s = some (readAnswerOf x) := by simp [readResult, h]

theorem writeResult_some {s : State} {x : XRsp} (h : nextAnswer s = some x) :
    writeResult s = some (writeAnswerOf x) := by simp [writeResult, h]

/-- A transport write is one answer used up and one event more. -/
theorem memWrite_eq (addr : Nat) (value : Byte) (s : State) :
    memWrite addr value s =
      { consumeAnswer s with history := s.history ++ [.write addr value (writeResult s)] } := by
  simp [memWrite, record]

/-- A transport read is one answer used up and one event more. -/
theorem memRead_eq (addr timeout : Nat) (s : State) :
    memRead addr timeout s =
      { consumeAnswer s with history := s.history ++ [.read addr timeout (readResult s)] } := by
  simp [memRead, record]

/-- A mode write that is not permitted does nothing; one that is issues one write, and the shadow takes
its target after a success, its target or no change after a failure, no change with no answer. -/
theorem modeWrite_cases (target : Mode) (s : State) :
    (canWrite s.cfg s.cfg.modeReg = false ∧ modeWrite target s = s ∧
      modeWriteOutcome s = some (.error .permissionDenied)) ∨
    (canWrite s.cfg s.cfg.modeReg = true ∧
      modeWrite target s = setMode (modeAfterWrite target (writeResult s) s)
        (memWrite s.cfg.modeReg (modeByte s.cfg target) s) ∧
      modeWriteOutcome s = (writeResult s).map writeOutcome) := by
  cases h : canWrite s.cfg s.cfg.modeReg <;> simp [modeWrite, modeWriteOutcome, h]

/-- The shadow after a mode write is the target or what it was. -/
theorem modeAfterWrite_cases (target : Mode) (answer : Option WriteAnswer) (s : State) :
    modeAfterWrite target answer s = target ∨ modeAfterWrite target answer s = s.mode := by
  rcases answer with _ | _ | e
  · exact .inr rfl
  · exact .inl rfl
  · simp only [modeAfterWrite]
    split
    · exact .inl rfl
    · exact .inr rfl

/-- One event more: the last value written to an address is its value if the event is a successful write
there, and otherwise what it was. -/
theorem lastWritten_append (addr : Nat) (h : List Event) (e : Event) :
    lastWritten addr (h ++ [e]) =
      match e with
      | .write a value (some .ok)  => if a = addr then some value else lastWritten addr h
      | .write _ _ (some (.err _)) => lastWritten addr h
      | .write _ _ none            => lastWritten addr h
      | .read _ _ _                => lastWritten addr h := by
  rcases e with _ | ⟨_, _, _ | _ | _⟩ <;> simp [lastWritten]

@[simp] theorem lastWritten_nil (addr : Nat) : lastWritten addr [] = none := rfl

end Sys2Proof.Machine
end

