-- ==== Sys2Proof/Laws/Exec.lean ====
section
/-! SUPPORT. One inversion lemma per meaning and one for the step: everything each can do, guards included. Invariants and frames are derived from these. -/

namespace Sys2Proof.Machine

/-- CONFIGURE: one of two clean rejections, or one write. -/
theorem execConfigure_cases {chan dutyNs periodNs : Nat} {s t : State}
    (h : exec (.configure chan dutyNs periodNs) s = .next t) :
    ((channelAddress s.cfg chan = none ∨ toDeviceUnit s.cfg dutyNs = none) ∧
      t = raise .outOfRange s) ∨
    (∃ addr value, channelAddress s.cfg chan = some addr ∧ toDeviceUnit s.cfg dutyNs = some value ∧
      ((canWrite s.cfg addr = false ∧ t = raise .permissionDenied s) ∨
       (canWrite s.cfg addr = true ∧
        t = finish ((writeResult s).map writeOutcome) (memWrite addr value s)))) := by
  obtain rfl := Host.Outcome.next.inj h
  rcases ha : channelAddress s.cfg chan with _ | addr
  · exact .inl ⟨.inl rfl, rfl⟩
  · rcases hv : toDeviceUnit s.cfg dutyNs with _ | value
    · exact .inl ⟨.inr rfl, rfl⟩
    · refine .inr ⟨addr, value, rfl, rfl, ?_⟩
      cases hw : canWrite s.cfg addr
      · exact .inl ⟨rfl, by simp [hw]⟩
      · exact .inr ⟨rfl, by simp [hw]⟩

/-- CAPTURE: one of two clean rejections, or one read. -/
theorem execCapture_cases {chan timeout : Nat} {s t : State}
    (h : exec (.capture chan timeout) s = .next t) :
    (channelAddress s.cfg chan = none ∧ t = raise .outOfRange s) ∨
    (∃ addr, channelAddress s.cfg chan = some addr ∧
      ((canRead s.cfg addr = false ∧ t = raise .permissionDenied s) ∨
       (canRead s.cfg addr = true ∧
        t = finish ((readResult s).map (captureOutcome s.cfg)) (memRead addr timeout s)))) := by
  obtain rfl := Host.Outcome.next.inj h
  rcases ha : channelAddress s.cfg chan with _ | addr
  · exact .inl ⟨rfl, rfl⟩
  · refine .inr ⟨addr, rfl, ?_⟩
    cases hw : canRead s.cfg addr
    · exact .inl ⟨rfl, by simp [hw]⟩
    · exact .inr ⟨rfl, by simp [hw]⟩

/-- ENABLE and DISABLE: a clean rejection, a hang, or an answered write and the shadow's update. -/
theorem modeCommand_cases (target : Mode) (s : State) :
    let t := finish (modeWriteOutcome s) (modeWrite target s)
    (canWrite s.cfg s.cfg.modeReg = false ∧ t = raise .permissionDenied s) ∨
    (canWrite s.cfg s.cfg.modeReg = true ∧
      t = finish ((writeResult s).map writeOutcome)
        (setMode (modeAfterWrite target (writeResult s) s)
          (memWrite s.cfg.modeReg (modeByte s.cfg target) s))) := by
  rcases modeWrite_cases target s with ⟨hw, h1, h2⟩ | ⟨hw, h1, h2⟩
  · exact .inl ⟨hw, by rw [h1, h2]; rfl⟩
  · exact .inr ⟨hw, by rw [h1, h2]⟩

theorem execEnable_cases {s t : State} (h : exec .enable s = .next t) :
    (canWrite s.cfg s.cfg.modeReg = false ∧ t = raise .permissionDenied s) ∨
    (canWrite s.cfg s.cfg.modeReg = true ∧
      t = finish ((writeResult s).map writeOutcome)
        (setMode (modeAfterWrite .generate (writeResult s) s)
          (memWrite s.cfg.modeReg s.cfg.modeValGenerate s))) := by
  obtain rfl := Host.Outcome.next.inj h
  exact modeCommand_cases .generate s

theorem execDisable_cases {s t : State} (h : exec .disable s = .next t) :
    (canWrite s.cfg s.cfg.modeReg = false ∧ t = raise .permissionDenied s) ∨
    (canWrite s.cfg s.cfg.modeReg = true ∧
      t = finish ((writeResult s).map writeOutcome)
        (setMode (modeAfterWrite .measure (writeResult s) s)
          (memWrite s.cfg.modeReg s.cfg.modeValMeasure s))) := by
  obtain rfl := Host.Outcome.next.inj h
  exact modeCommand_cases .measure s

/-- TEARDOWN: a rejection and DESTROYED, a hang while still LIVE, or an answered write and DESTROYED. -/
theorem execTeardown_cases {s t : State} (h : exec .teardown s = .next t) :
    (canWrite s.cfg s.cfg.modeReg = false ∧
      t = raise .permissionDenied (setLife .destroyed s)) ∨
    (canWrite s.cfg s.cfg.modeReg = true ∧
      ((writeResult s = none ∧ t = setMode s.mode
          (memWrite s.cfg.modeReg s.cfg.modeValMeasure s)) ∨
       (∃ a, writeResult s = some a ∧
        t = respond (writeOutcome a) (setLife .destroyed
          (setMode (modeAfterWrite .measure (some a) s)
            (memWrite s.cfg.modeReg s.cfg.modeValMeasure s)))))) := by
  obtain rfl := Host.Outcome.next.inj h
  rcases modeWrite_cases .measure s with ⟨hw, h1, h2⟩ | ⟨hw, h1, h2⟩
  · exact .inl ⟨hw, by rw [h1, h2]; rfl⟩
  · refine .inr ⟨hw, ?_⟩
    rcases ha : writeResult s with _ | a
    · exact .inl ⟨rfl, by rw [h1, h2, ha]; rfl⟩
    · exact .inr ⟨a, rfl, by rw [h1, h2, ha]; rfl⟩

/-- Every command has a next state, in every state and at every operand. -/
theorem exec_total (i : Instr) (s : State) : ∃ t, exec i s = .next t := by
  cases i <;> exact ⟨_, rfl⟩

/-- The step: a delivery, a wait, a host reset, or the run of an accepted command. -/
theorem step_cases {s t : State} (h : step s = .next t) :
    (∃ r, s.busy = .busy ∧ s.rsp = some r ∧ t = deliverResponse r s) ∨
    (t = s ∧ ((s.busy = .busy ∧ s.rsp = none) ∨ (s.busy = .idle ∧ s.host = []))) ∨
    (∃ rest, s.busy = .idle ∧ s.host = .reset :: rest ∧ t = hostReset rest s) ∨
    (∃ word rest, s.busy = .idle ∧ s.life = .live ∧ s.host = .present word :: rest ∧
      exec (decode s.cfg (portWord s.cfg word)) (acceptCommand rest s) = .next t) := by
  unfold step handshake at h
  split at h
  case h_1 r h1 h2 => exact .inl ⟨r, h1, h2, (Host.Outcome.next.inj h).symm⟩
  case h_2 => exact nomatch h
  case h_3 h1 h2 _ => exact .inr (.inl ⟨(Host.Outcome.next.inj h).symm, .inl ⟨h1, h2⟩⟩)
  case h_4 h1 h2 _ => exact .inr (.inl ⟨(Host.Outcome.next.inj h).symm, .inl ⟨h1, h2⟩⟩)
  case h_5 h1 h2 => exact .inr (.inl ⟨(Host.Outcome.next.inj h).symm, .inr ⟨h1, h2⟩⟩)
  case h_6 rest h1 h2 =>
    exact .inr (.inr (.inl ⟨rest, h1, h2, (Host.Outcome.next.inj h).symm⟩))
  case h_7 => exact nomatch h
  case h_8 word rest h1 h2 h3 => exact .inr (.inr (.inr ⟨word, rest, h1, h3, h2, h⟩))

end Sys2Proof.Machine
end

