-- ==== Sys2Proof/Laws/PerInstr.lean ====
section
/-! SUPPORT. The per-instruction family EncodesOpcode: the word of every command carries the `op` bits that spec/30_encoding.md rules R72 and R83 give it. -/

namespace Sys2Proof.Laws.EncodesOpcode

/-- The three bits above a command word's other fields, 106:104 at the default widths, are its `op`. -/
def Statement (i : Instr) : Prop := ∀ c : Config, (encode c i).extractLsb' c.opLo 3 = opBits i

/-- The fields below `op` do not reach it. -/
theorem op_of_cmdWord (c : Config) (op : BitVec 3) (chan dutyNs periodNs timeout : Nat) :
    (cmdWord c op chan dutyNs periodNs timeout).extractLsb' c.opLo 3 = op := by
  apply BitVec.eq_of_getLsbD_eq
  intro i hi
  rw [BitVec.getLsbD_extractLsb', getLsbD_cmdWord_op]
  simp [hi]

theorem configure (chan dutyNs periodNs : Nat) : Statement (.configure chan dutyNs periodNs) :=
  fun _ => op_of_cmdWord ..
theorem capture (chan timeout : Nat) : Statement (.capture chan timeout) := fun _ => op_of_cmdWord ..
theorem setPolarity : Statement .setPolarity := fun _ => op_of_cmdWord ..
theorem enable : Statement .enable := fun _ => op_of_cmdWord ..
theorem disable : Statement .disable := fun _ => op_of_cmdWord ..
theorem teardown : Statement .teardown := fun _ => op_of_cmdWord ..
theorem reserved6 : Statement .reserved6 := fun _ => op_of_cmdWord ..
theorem reserved7 : Statement .reserved7 := fun _ => op_of_cmdWord ..

end Sys2Proof.Laws.EncodesOpcode
end

