-- ==== Sys2Proof/Tests/Slice0.lean ====
section
/-! SUPPORT. Tests from the spec's own vectors (spec/95_test_vectors.md), the WellFormed smoke test, and for every statement with hypotheses a state and operands that meet them all, at the boundary of each clause. -/

namespace Sys2Proof.Tests

open Sys2Proof Sys2Proof.Machine Sys2Proof.Safety

/-! ### Helpers -/

/-- The next state, if that is what a step answers. -/
def nextOf (o : Host.Outcome State Fault Refusal) : Option State :=
  match o with
  | .next s    => some s
  | .fault _   => none
  | .refused _ => none

/-- The fault, if that is what a step answers. -/
def faultOf (o : Host.Outcome State Fault Refusal) : Option Fault :=
  match o with
  | .next _    => none
  | .fault r   => some r
  | .refused _ => none

/-- The refusal, if that is what a step answers. -/
def refusalOf (o : Host.Outcome State Fault Refusal) : Option Refusal :=
  match o with
  | .next _    => none
  | .fault _   => none
  | .refused r => some r

/-- The transport answers `Ok` with a byte. -/
def okByte (b : Byte) : Option XRsp := some ⟨false, b, 0⟩

/-- The transport answers `Err` with a cause; the byte beside it is to be ignored. -/
def errCause (e : Nat) : Option XRsp := some ⟨true, 0x55, e⟩

/-- An accepted command's start: default OPEN parameters, a mode, and the transport's answers. -/
def running (mode : Mode) (answers : List (Option XRsp)) : State :=
  { State.reset with mode := mode, answers := answers, busy := .busy }

/-- Another choice of R10's parameters: every width and every OPEN value. -/
def updateOnFail : Config := Config.pwmctl
  { dutyWidth := 40, chanWidth := 3, timeoutWidth := 0, terrWidth := 4,
    modeValMeasure := 0xA0, modeValGenerate := 0x5F, modeUpdateOnFail := true }

/-- The same with `MODE_UPDATE_ON_FAIL = true` and mode bytes that are not the defaults. -/
def runningUpdateOnFail (mode : Mode) (answers : List (Option XRsp)) : State :=
  { running mode answers with cfg := updateOnFail }

/-- A configuration that no chip has, whose lists deny every address: it reaches PermissionDenied. -/
def denying : State :=
  { running .generate [okByte 0] with
    cfg := { Config.default with readRanges := [], writeRanges := [] } }

/-- A ready block with the host's moves and the transport's answers. -/
def ready (host : List HostMove) (answers : List (Option XRsp)) : State :=
  { State.reset with host := host, answers := answers }

/-! ### WellFormed: each check refuses an ill-formed command -/

theorem test_wf_configure_chan : (Instr.configure 256 0 0).wf Config.default = false := by decide
theorem test_wf_configure_duty : (Instr.configure 0 (2 ^ 32) 0).wf Config.default = false := by decide
theorem test_wf_configure_period : (Instr.configure 0 0 (2 ^ 32)).wf Config.default = false := by decide
theorem test_wf_capture_chan : (Instr.capture 256 0).wf Config.default = false := by decide
theorem test_wf_capture_timeout : (Instr.capture 0 (2 ^ 32)).wf Config.default = false := by decide
theorem test_wf_widest : (Instr.configure 255 (2 ^ 32 - 1) (2 ^ 32 - 1)).wf Config.default = true := by decide

/-- R10, D5: with 3 bits for the channel, 8 does not fit. -/
theorem test_wf_other_widths :
    (Instr.configure 8 0 0).wf updateOnFail = false ∧
    (Instr.configure 7 (2 ^ 40 - 1) 0).wf updateOnFail = true := by decide

/-! ### Decoding: the words of spec/95_test_vectors.md sections 2.5 to 2.8 -/

theorem test_decode_configure :
    decode Config.default 0x0050032004A0000000000000000 = .configure 5 3276874 0 ∧
    decode Config.default 0x00000000000FFFFFFFF00000000 = .configure 0 0 0xFFFFFFFF := by decide
theorem test_decode_capture :
    decode Config.default 0x100000000000000000000000064 = .capture 0 100 ∧
    decode Config.default 0x1FF000000000000000000000000 = .capture 255 0 := by decide
theorem test_decode_set_polarity :
    decode Config.default 0x200000000000000000000000000 = .setPolarity ∧
    decode Config.default 0x2FFFFFFFFFFFFFFFFFFFFFFFFFF = .setPolarity := by decide
theorem test_decode_mode_commands :
    decode Config.default 0x300000000000000000000000000 = .enable ∧
    decode Config.default 0x400000000000000000000000000 = .disable ∧
    decode Config.default 0x500000000000000000000000000 = .teardown := by decide
theorem test_decode_reserved :
    decode Config.default 0x600000000000000000000000000 = .reserved6 ∧
    decode Config.default 0x7FFFFFFFFFFFFFFFFFFFFFFFFFF = .reserved7 := by decide
theorem test_decode_too_wide : decodeNumber Config.default (2 ^ 107) = .error .widerThanCommandWord := by rfl
/-- The layout of R71 at the widths of `updateOnFail`, 3 + 3 + 40 + 40 bits. -/
theorem test_decode_other_widths :
    decode updateOnFail (BitVec.ofNat 86 (5 * 2 ^ 80 + 7 * 2 ^ 40 + 9)) = .configure 5 7 9 ∧
    decode updateOnFail (BitVec.ofNat 86 (2 ^ 83 + 5 * 2 ^ 80)) = .capture 5 0 := by decide
theorem test_table_word :
    decodeTableWord 112 0x3FFFFFFFFFFFFFFFFFFFFFFFFFF = some .enable := by decide
theorem test_encode_configure :
    encode Config.default (.configure 2 1500000 20000000) = 0x0020016E36001312D0000000000 := by decide
theorem test_encode_capture : encode Config.default (.capture 5 1000) = 0x1050000000000000000000003E8 := by decide
theorem test_assemble_omitted_operands :
    assemble "CONFIGURE" [2, 1500000] = some (.configure 2 1500000 0) ∧
    assemble "CAPTURE" [] = none ∧ assemble "ENABLE" [1] = none := by decide

/-! ### The pure functions: sections 2.1 to 2.4 and 2.9 -/

theorem test_access_table :
    (List.range 14).map (canRead Config.default) =
      [false, true, true, true, true, true, true, false, false, false, true, false, true, false] ∧
    (List.range 14).map (canWrite Config.default) =
      [true, true, true, true, true, true, true, false, false, false, false, true, false, false] :=
  by decide
theorem test_access_class :
    accessClass Config.default 0x00 = .writeOnly ∧ accessClass Config.default 0x06 = .both ∧
    accessClass Config.default 0x07 = .neither ∧ accessClass Config.default 0x0C = .readOnly := by
  decide
theorem test_forward_low :
    [124, 12800, 12874, 12875, 25624, 25625, 38499, 38500].map (toDeviceUnit Config.default) =
      [some 0, some 0, some 0, some 1, some 1, some 2, some 2, some 3] := by decide
theorem test_forward_high :
    [1497600, 3263999, 3264000, 3276874, 3276875, 20000000, 4294967295].map
      (toDeviceUnit Config.default) =
      [some 116, some 254, some 255, some 255, none, none, none] := by decide
theorem test_reverse :
    [0, 1, 117, 255].map (fromDeviceUnit Config.default) = [0, 12800, 1497600, 3264000] := by decide
theorem test_demux :
    [0, 5, 6, 255].map (demuxPort Config.default) =
      [(0x01, false), (0x06, false), (0x00, true), (0x00, true)] := by decide

/-- R8, R9: the pre-collapsed constants agree with the clock and the second they come from, and the
register space ends where R7 says. -/
theorem test_constants_agree :
    Config.default.denom * Config.default.clockFreq = 10 * Config.default.nsPerSec ∧
    Config.default.periodNs * 50 = Config.default.nsPerSec ∧
    Config.default.maxRegister = 0x0C := by decide

/-! ### The words on the ports: sections 2.5, 2.6, 2.8 -/

theorem test_response_words :
    responseWord Config.default (.captured 1497600 20000000) = 0x00016DA0001312D0000 ∧
    responseWord Config.default (.error (.transportFailure 0x2A)) = 0x400000000000000002A := by decide
theorem test_request_words :
    requestWord Config.default (.write 0x03 117 none) = 0x1037500000000 ∧
    requestWord Config.default (.read 0x01 100 none) = 0x0010000000064 := by decide
theorem test_answer_words :
    readAnswerOf (xrspOfWord Config.default 0x07500) = .ok 117 ∧
    readAnswerOf (xrspOfWord Config.default 0x1002A) = .err 0x2A := by decide

/-! ### One command each: sections 2.5 to 2.8 -/

/-- 2.5 row 1: one write of 117 to 0x03. -/
theorem test_configure_ok :
    (nextOf (exec (.configure 2 1500000 20000000) (running .measure [okByte 0]))).map
      (fun t => (t.rsp, t.history)) =
    some (some .ok, [.write 0x03 117 (some .ok)]) := by decide
/-- 2.5 row 8: channel 255 writes nothing, above all not to 0x00. -/
theorem test_configure_wraparound_channel :
    (nextOf (exec (.configure 255 0 0) (running .measure [okByte 0]))).map
      (fun t => (t.rsp, t.history, t.answers)) =
    some (some (.error .outOfRange), [], [okByte 0]) := by decide
/-- 2.6 row 1. -/
theorem test_capture_ok :
    (nextOf (exec (.capture 0 100) (running .generate [okByte 117]))).map
      (fun t => (t.rsp, t.history)) =
    some (some (.captured 1497600 20000000), [.read 0x01 100 (some (.ok 117))]) := by decide
/-- 2.6 row 5: on a failure the result fields are gone and the byte beside the cause is ignored. -/
theorem test_capture_failure :
    (nextOf (exec (.capture 0 100) (running .measure [errCause 0x2A]))).map
      (fun t => (t.rsp.map (responseWord Config.default), t.history)) =
    some (some 0x400000000000000002A, [.read 0x01 100 (some (.err 0x2A))]) := by decide
/-- 2.7 row 1. -/
theorem test_set_polarity :
    (nextOf (exec .setPolarity (running .generate []))).map (fun t => (t.rsp, t.mode, t.history)) =
    some (some (.error .unsupported), .generate, []) := by decide
/-- 2.7 row 3. -/
theorem test_reserved6 :
    (nextOf (exec .reserved6 (running .measure []))).map (fun t => (t.rsp, t.history)) =
    some (some (.error .unsupported), []) := by decide
/-- 2.7 row 4. -/
theorem test_reserved7 :
    (nextOf (exec .reserved7 (running .measure []))).map (fun t => (t.rsp, t.history)) =
    some (some (.error .unsupported), []) := by decide
/-- 2.8 row 1. -/
theorem test_enable_ok :
    (nextOf (exec .enable (running .measure [okByte 0]))).map (fun t => (t.mode, t.life, t.history)) =
    some (.generate, .live, [.write 0x00 0x01 (some .ok)]) := by decide
/-- 2.8 row 5, both readings of `MODE_UPDATE_ON_FAIL`. -/
theorem test_enable_failure :
    (nextOf (exec .enable (running .measure [errCause 7]))).map (fun t => (t.mode, t.rsp)) =
      some (.measure, some (.error (.transportFailure 7))) ∧
    (nextOf (exec .enable (runningUpdateOnFail .measure [errCause 7]))).map (fun t => t.mode) =
      some .generate := by decide
/-- 2.8 row 4: the write is issued although the mode is MEASURE already. -/
theorem test_disable_idempotent :
    (nextOf (exec .disable (running .measure [okByte 0]))).map (fun t => (t.mode, t.history)) =
    some (.measure, [.write 0x00 0x00 (some .ok)]) := by decide
/-- 2.8 row 6, both readings. -/
theorem test_disable_failure :
    (nextOf (exec .disable (running .generate [errCause 7]))).map (fun t => t.mode) =
      some .generate ∧
    (nextOf (exec .disable (runningUpdateOnFail .generate [errCause 7]))).map (fun t => t.mode) =
      some .measure := by decide
/-- 2.8 row 7. -/
theorem test_teardown_ok :
    (nextOf (exec .teardown (running .generate [okByte 0]))).map (fun t => (t.mode, t.life, t.rsp)) =
    some (.measure, .destroyed, some .ok) := by decide
/-- 2.8 row 9. -/
theorem test_teardown_failure :
    (nextOf (exec .teardown (running .generate [errCause 7]))).map (fun t => (t.mode, t.life, t.rsp)) =
    some (.generate, .destroyed, some (.error (.transportFailure 7))) := by decide
/-- R197: TEARDOWN whose request is never answered stays LIVE with no response. -/
theorem test_teardown_unanswered :
    (nextOf (exec .teardown (running .generate [none]))).map
      (fun t => (t.mode, t.life, t.rsp, t.history)) =
    some (.generate, .live, none, [.write 0x00 0x00 none]) := by decide

/-! ### One step each -/

/-- 2.8 row 10: no step. -/
theorem test_step_after_teardown :
    faultOf (step { ready [.present 0] [] with life := .destroyed }) = some .stuckAfterTeardown := by
  decide
theorem test_step_accepts :
    (nextOf (step (ready [.present (encode Config.default .enable).toNat, .reset] [okByte 0]))).map
      (fun t => (t.busy, t.host, t.mode)) = some (.busy, [.reset], .generate) := by decide
/-- From reset itself, with nothing known of the transport, every row's word runs. -/
theorem test_step_runs_from_reset :
    (List.range 8).map (fun op => (nextOf (step
      (State.reset.withFetchWord 112 (op * 2 ^ 104)))).isSome) = List.replicate 8 true := by decide
theorem test_reset_in_flight_refused :
    refusalOf (step { ready [.reset] [] with busy := .busy }) = some .resetInFlight := by decide

/-! ### Witnesses: the hypotheses of the statements can be met -/

/-- CanRead…, CanWrite…, ForwardConversionFormula, ForwardRejects…, ForwardThresholds, Reverse…,
RoundTripFromDeviceUnit, ChannelChecked…: the hypothesis `IsPwmctl`, with other parameters too; the last
clause of AccessPredicatesIndependentAndTotal at `0x0D`. -/
theorem witness_IsPwmctl :
    Config.default.IsPwmctl ∧ updateOnFail.IsPwmctl ∧
    Config.default.maxRegister < 0x0D ∧ 22 ≤ Config.default.dutyWidth := by decide
/-- R10's one constraint: equal mode bytes are not PWMCTL's. -/
theorem test_mode_bytes_must_differ :
    ¬ (Config.pwmctl { Params.default with modeValGenerate := 0x00 }).IsPwmctl := by decide
/-- ForwardRejectsAndNeverClamps and ForwardThresholds on both sides of the threshold. -/
theorem witness_ForwardThresholds :
    toDeviceUnit Config.default 3276874 = some 255 ∧ toDeviceUnit Config.default 3276875 = none ∧
    smallestInput 255 = 3264000 ∧ smallestInput 256 = 3276875 := by decide
theorem witness_ForwardMonotone :
    12874 < 12875 ∧ toDeviceUnit Config.default 12874 = some 0 ∧
    toDeviceUnit Config.default 12875 = some 1 ∧
    3276875 < 3276876 ∧ toDeviceUnit Config.default 3276875 = none := by decide
/-- The largest loss, and an input just before it with a smaller one. -/
theorem witness_RoundTripFromNanoseconds :
    toDeviceUnit Config.default 38499 = some 2 ∧
    38499 - fromDeviceUnit Config.default 2 = 12899 ∧
    toDeviceUnit Config.default 38498 = some 2 := by decide
theorem witness_DecodeOfEncode :
    (Instr.configure 255 0xFFFFFFFF 0).wf Config.default = true ∧ (Instr.capture 0 0xFFFFFFFF).wf Config.default = true := by decide
theorem witness_IgnoredFields :
    (0x100000000000000000000000064 : CmdWord Config.default) &&& readMask Config.default (.capture 0 100) =
      0x100FFFFFFFFFFFFFFFF00000064 &&& readMask Config.default (.capture 0 100) := by decide
theorem witness_ResponseWordFields :
    (Response.ok ≠ .captured 0 0) ∧ (Response.ok ≠ .error (.transportFailure 0)) := by decide
theorem witness_TransportWordFields :
    (0x1002A : XRspWord Config.default).getLsbD (Config.default.terrWidth + 8) = true ∧
    (0x07500 : XRspWord Config.default).getLsbD (Config.default.terrWidth + 8) = false ∧
    Config.default.HasDefaultWidths := by decide
theorem witness_TextForm : Instr.capture 0 1 ≠ .reserved6 ∧ Instr.capture 0 1 ≠ .reserved7 := by
  decide
/-- ConfigureMeaning, one clause each: channel 6; duty 3,276,875; denied; permitted and answered Ok and
Err at channel 5 and duty 3,276,874. -/
theorem witness_ConfigureMeaning :
    (running .measure []).cfg.maxChannels ≤ 6 ∧ toDeviceUnit Config.default 3276875 = none ∧
    (5 < denying.cfg.maxChannels ∧ toDeviceUnit denying.cfg 3276874 = some 255 ∧
      canWrite denying.cfg (denying.cfg.baseChannelReg + 5) = false) ∧
    (5 < Config.default.maxChannels ∧ toDeviceUnit Config.default 3276874 = some 255 ∧
      canWrite Config.default (Config.default.baseChannelReg + 5) = true ∧
      nextAnswer (running .measure [okByte 0]) = some ⟨false, 0, 0⟩ ∧
      nextAnswer (running .measure [errCause 9]) = some ⟨true, 0x55, 9⟩) := by decide
theorem witness_CaptureMeaning :
    (running .measure []).cfg.maxChannels ≤ 6 ∧
    (5 < denying.cfg.maxChannels ∧ canRead denying.cfg (denying.cfg.baseChannelReg + 5) = false) ∧
    (5 < Config.default.maxChannels ∧
      canRead Config.default (Config.default.baseChannelReg + 5) = true ∧
      nextAnswer (running .generate [okByte 255]) = some ⟨false, 255, 0⟩) := by decide
theorem witness_SetPolarity :
    (0x2FFFFFFFFFFFFFFFFFFFFFFFFFF : CmdWord Config.default).extractLsb' Config.default.opLo 3 = 2 ∧
    (nextOf (step (ready [.present 0x200000000000000000000000000] []))).map (fun t => t.host) =
      some [] := by decide
/-- EnableMeaning, DisableMeaning, TeardownMeaning: denied, and permitted with either answer. -/
theorem witness_ModeCommands :
    canWrite denying.cfg denying.cfg.modeReg = false ∧
    canWrite Config.default Config.default.modeReg = true ∧
    nextAnswer (running .generate [okByte 0]) = some ⟨false, 0, 0⟩ ∧
    nextAnswer (running .generate [errCause 9]) = some ⟨true, 0x55, 9⟩ := by decide
/-- CommandFrame and AtMostOnePermittedTransaction: a command that leaves the mode alone, one that
changes it, and both cases of the history. -/
theorem witness_CommandFrame :
    isModeCommand (.capture 0 0) = false ∧ Instr.enable ≠ .teardown ∧
    (nextOf (exec (.capture 6 0) (running .measure []))).map (fun t => t.history) = some [] ∧
    (nextOf (exec .enable (running .measure [okByte 0]))).map (fun t => t.history.length) =
      some 1 := by decide
/-- ErrorsArePrecise, every clause: a validation error, and a TransportFailure of CAPTURE, ENABLE,
DISABLE and TEARDOWN. -/
theorem witness_ErrorsArePrecise :
    (running .measure []).rsp = none ∧
    [Instr.configure 6 0 0, .capture 0 0, .enable, .disable, .teardown].map (fun i =>
      (nextOf (exec i (running .generate [errCause 9]))).bind fun t => t.rsp) =
    [some (.error .outOfRange), some (.error (.transportFailure 9)),
      some (.error (.transportFailure 9)), some (.error (.transportFailure 9)),
      some (.error (.transportFailure 9))] := by decide
theorem witness_PermissionDenied :
    Config.default.IsPwmctl ∧ (running .measure [okByte 0]).rsp = none ∧
    (nextOf (exec (.configure 5 0 0) (running .measure [okByte 0]))).isSome = true := by decide
theorem witness_CapturedPeriod :
    (nextOf (exec (.capture 5 0) (running .measure [okByte 255]))).bind (fun t => t.rsp) =
      some (.captured 3264000 20000000) := by decide
/-- ModeIsReadByNoCommand's last two clauses. -/
theorem witness_ModeIsReadByNoCommand :
    isModeCommand (.configure 0 0 0) = false ∧ isModeCommand .enable = true ∧
    (running .measure [okByte 0]).rsp = none ∧
    (nextOf (exec .enable (running .measure [okByte 0]))).bind (fun t => t.rsp) = some .ok := by
  decide
theorem witness_CaptureTimeout :
    (nextOf (exec (.capture 1 0) (running .measure [okByte 3]))).map (fun t => t.history) =
      some [.read 0x02 0 (some (.ok 3))] ∧
    (nextOf (exec (.capture 1 0xFFFFFFFF) (running .measure [okByte 3]))).map (fun t => t.history) =
      some [.read 0x02 0xFFFFFFFF (some (.ok 3))] := by decide
/-- UnansweredRequestHangs: every command's checks passed at the last channel, and a command that issues
no request. -/
theorem witness_Unanswered :
    let s := running .measure [none]
    nextAnswer s = none ∧ 5 < s.cfg.maxChannels ∧ toDeviceUnit s.cfg 3276874 = some 255 ∧
    canWrite s.cfg (s.cfg.baseChannelReg + 5) = true ∧
    canRead s.cfg (s.cfg.baseChannelReg + 5) = true ∧ canWrite s.cfg s.cfg.modeReg = true ∧
    (nextOf (exec (.capture 6 0) s)).map (fun t => (t.rsp, t.history)) =
      some (some (.error .outOfRange), []) := by decide
/-- StepRunsTheDecodedCommand, AcceptedExactlyWhenReady, AnsweredCommandRespondsInTwoSteps. -/
theorem witness_ReadyBlock :
    let s := ready [.present 0x300000000000000000000000000] [okByte 0]
    s.busy = .idle ∧ s.life = .live ∧ s.host = [.present 0x300000000000000000000000000] ∧
    nextAnswer s = some ⟨false, 0, 0⟩ ∧ cmdReady s = true := by decide
theorem witness_Delivery :
    let s := { running .measure [] with rsp := some .ok }
    s.busy = .busy ∧ s.rsp = some .ok ∧
    (nextOf (step s)).map (fun t => (t.busy, t.responses)) = some (.idle, [.ok]) := by decide
/-- WaitingBlockDoesNotChange: idle with no move; hanging with no move and with a command presented. -/
theorem witness_Waiting :
    (ready [] []).busy = .idle ∧ (ready [] []).host = [] ∧
    (running .measure []).busy = .busy ∧ (running .measure []).rsp = none ∧
    (running .measure []).host = [] ∧
    nextOf (step { running .measure [] with host := [.present 0] }) =
      some { running .measure [] with host := [.present 0] } := by decide
/-- DestroyedBlockAcceptsNothing: the fault, a reset, and the delivery of TEARDOWN's own response. -/
theorem witness_Destroyed :
    (let s := { ready [.present 0] [] with life := Life.destroyed }
     s.busy = .idle ∧ s.life = .destroyed ∧ s.host = [.present 0]) ∧
    (nextOf (step { ready [.reset] [] with life := .destroyed })).map (fun t => t.life) =
      some .live ∧
    (nextOf (step { running .measure [] with life := .destroyed, rsp := some .ok })).map
      (fun t => (t.life, t.responses)) = some (.destroyed, [.ok]) := by decide
/-- ResetMove: idle, and hanging. -/
theorem witness_ResetMove :
    (ready [.reset] []).host = [.reset] ∧ (ready [.reset] []).busy = .idle ∧
    (let s := { running .measure [] with host := [HostMove.reset] }
     s.busy = .busy ∧ s.rsp = none ∧ s.host = [.reset]) := by decide
/-- GenerateOnlyByEnable and LifeChangesOnlyByTeardownAndReset: the changes do happen. -/
theorem witness_ModeAndLifeChange :
    (ready [.present 0x300000000000000000000000000] [okByte 0]).mode = .measure ∧
    (nextOf (step (ready [.present 0x300000000000000000000000000] [okByte 0]))).map
      (fun t => t.mode) = some .generate ∧
    (nextOf (step (ready [.present 0x500000000000000000000000000] [okByte 0]))).map
      (fun t => t.life) = some .destroyed ∧
    (nextOf (step { ready [.reset] [] with life := .destroyed })).map (fun t => t.life) =
      some .live := by decide
/-- ConfigurationNeverChanges and the five invariants: from reset, which meets them, with
`MODE_UPDATE_ON_FAIL = false`, a step that adds to the history. -/
theorem witness_Invariants :
    Config.default.IsPwmctl ∧ Config.default.modeUpdateOnFail = false ∧
    (nextOf (step (ready [.present 0x300000000000000000000000000] [okByte 0]))).map
      (fun t => t.history) = some [.write 0x00 0x01 (some .ok)] := by decide
theorem witness_HistoryPermitted : HistoryPermitted (ready [.present 0] [okByte 0]) := by
  simp [HistoryPermitted, ready, State.reset]
theorem witness_HandshakeOk : HandshakeOk (ready [.present 0] [okByte 0]) :=
  .inl ⟨rfl, rfl, by simp [ready, State.reset]⟩
theorem witness_ShadowAgrees : ShadowAgrees (ready [.present 0] [okByte 0]) := rfl
theorem witness_TransactionsLegal : TransactionsLegal (ready [.present 0] [okByte 0]) := by
  simp [TransactionsLegal, ready, State.reset]
/-- A destroyed block that meets the invariant, with its delivery still to come. -/
theorem witness_TornDown :
    TornDownByModeReset { running .measure [] with
      life := .destroyed, rsp := some .ok, history := [.write 0x00 0x00 (some .ok)] } :=
  fun _ => ⟨[], .ok, rfl⟩
theorem witness_EnableThenDisable :
    let s := ready [.present 0x3FFFFFFFFFFFFFFFFFFFFFFFFFF, .present 0x400000000000000000000000000]
      [okByte 1, okByte 2]
    s.cfg.IsPwmctl ∧ s.busy = .idle ∧
    s.life = .live ∧ decode s.cfg (portWord s.cfg 0x3FFFFFFFFFFFFFFFFFFFFFFFFFF) = .enable ∧
    decode s.cfg (portWord s.cfg 0x400000000000000000000000000) = .disable ∧
    nextAnswer s = some ⟨false, 1, 0⟩ ∧ nextAnswer (consumeAnswer s) = some ⟨false, 2, 0⟩ := by decide
/-- OutputsShowTheState: both modes, both lives, and a response that waits and is then delivered. -/
theorem witness_Outputs :
    modeOutput (running .generate []) = 1 ∧
    lifeOutput { running .measure [] with life := .destroyed } = 1 ∧
    (let s := { running .measure [] with rsp := some (.captured 12800 20000000) }
     s.busy = .busy ∧ rspValid s = true ∧ rspOutput s = some 0x00000320001312D0000 ∧
     (nextOf (step s)).map rspValid = some false) := by decide
/-- FieldsAtThePrintedPositions: the first and the last command word. -/
theorem witness_PrintedPositions :
    Config.default.HasDefaultWidths ∧ 0 < 2 ^ 107 ∧ 2 ^ 107 - 1 < 2 ^ 107 ∧
    Config.default.cmdWidth = 107 := by decide

end Sys2Proof.Tests
end

section
/-! PROOFS. spec/00_scope.md R15 and spec/70_reset_and_hazards.md R197: the steps in which the block waits. -/

namespace Sys2Proof.Machine

/-- R15: the block acts on commands only. -/
theorem step_of_idle_of_no_move {s : State} (hbusy : s.busy = .idle) (hhost : s.host = []) :
    step s = .next s := by
  simp only [step, handshake, hbusy, hhost]

/-- R197: a hang ends neither by itself nor by a further command; only a reset would be outside the
model (R192). -/
theorem step_of_hanging {s : State} (hbusy : s.busy = .busy) (hrsp : s.rsp = none)
    (hreset : ∀ rest, s.host ≠ .reset :: rest) : step s = .next s := by
  match hhost : s.host with
  | [] => simp only [step, handshake, hbusy, hrsp, hhost]
  | .present _ :: _ => simp only [step, handshake, hbusy, hrsp, hhost]
  | .reset :: rest => exact absurd hhost (hreset rest)

/-- Settles O41, by the two ways the block waits: idle with no move, and hanging. -/
theorem waitingBlockDoesNotChange : Obligations.WaitingBlockDoesNotChange :=
  fun _ => ⟨step_of_idle_of_no_move, step_of_hanging⟩

end Sys2Proof.Machine
end

section
/-! PROOFS. Every command's run in one inversion lemma: a rejection, or one request and what became of it
(spec/42_channel_ops.md R138). The rules of the whole machine are derived from it. -/

namespace Sys2Proof.Machine

open Sys2Proof.Safety

/-- The one transaction a command may issue, after its checks were passed (R130, R131, R150 to R152). -/
inductive Issues (c : Config) : Instr → Event → Prop
  | configure {chan dutyNs periodNs addr : Nat} {value : Byte} {answer : Option WriteAnswer}
      (hchan : channelAddress c chan = some addr) (hpermitted : canWrite c addr = true) :
      Issues c (.configure chan dutyNs periodNs) (.write addr value answer)
  | capture {chan timeout addr : Nat} {answer : Option ReadAnswer}
      (hchan : channelAddress c chan = some addr) (hpermitted : canRead c addr = true) :
      Issues c (.capture chan timeout) (.read addr timeout answer)
  | enable {answer : Option WriteAnswer} (hpermitted : canWrite c c.modeReg = true) :
      Issues c .enable (.write c.modeReg c.modeValGenerate answer)
  | disable {answer : Option WriteAnswer} (hpermitted : canWrite c c.modeReg = true) :
      Issues c .disable (.write c.modeReg c.modeValMeasure answer)
  | teardown {answer : Option WriteAnswer} (hpermitted : canWrite c c.modeReg = true) :
      Issues c .teardown (.write c.modeReg c.modeValMeasure answer)

/-- Where a command may take the mode shadow (R154). -/
def ModeMoves (i : Instr) (old new : Mode) : Prop :=
  new = old ∨ (i = .enable ∧ new = .generate) ∨ ((i = .disable ∨ i = .teardown) ∧ new = .measure)

/-- Where a command may take the lifecycle flag (R21). -/
def LifeMoves (i : Instr) (old new : Life) : Prop :=
  new = old ∨ (i = .teardown ∧ new = .destroyed)

/-- How a command's run can end: rejected with no transaction, or after exactly one, with a response just
when the transport answered it (R138, R197). -/
inductive Ran (i : Instr) (s : State) : State → Prop
  | rejected (kind : ErrorKind) (l : Life) (hlife : LifeMoves i s.life l) :
      Ran i s (raise kind (setLife l s))
  | requested (e : Event) (outcome : Option Response) (m : Mode) (l : Life)
      (hissued : Issues s.cfg i e) (hanswered : outcome.isSome = answered e)
      (hmode : ModeMoves i s.mode m) (hlife : LifeMoves i s.life l) :
      Ran i s (finish outcome (setLife l (setMode m (record e (consumeAnswer s)))))

theorem setMode_eq_self {m : Mode} {s : State} (h : s.mode = m) : setMode m s = s := by
  subst h; rfl

theorem setLife_eq_self {l : Life} {s : State} (h : s.life = l) : setLife l s = s := by
  subst h; rfl

theorem modeMoves_refl (i : Instr) (m : Mode) : ModeMoves i m m := .inl rfl

theorem lifeMoves_refl (i : Instr) (l : Life) : LifeMoves i l l := .inl rfl

/-- A clean rejection: nothing changes but the response. -/
theorem Ran.cleanRejection (i : Instr) (kind : ErrorKind) (s : State) : Ran i s (raise kind s) :=
  .rejected kind s.life (lifeMoves_refl ..)

/-- One request of a command that leaves mode and lifecycle alone. -/
theorem Ran.plainRequest {i : Instr} {s : State} {e : Event} {outcome : Option Response}
    (hissued : Issues s.cfg i e) (hanswered : outcome.isSome = answered e) :
    Ran i s (finish outcome (record e (consumeAnswer s))) := by
  have h := Ran.requested e outcome s.mode s.life hissued hanswered
    (modeMoves_refl ..) (lifeMoves_refl ..)
  rwa [setMode_eq_self (by simp), setLife_eq_self (by simp)] at h

/-- The one write of a command that leaves the lifecycle alone and updates the shadow. -/
theorem Ran.modeRequest {i : Instr} {s : State} {e : Event} {outcome : Option Response} {m : Mode}
    (hissued : Issues s.cfg i e) (hanswered : outcome.isSome = answered e)
    (hmode : ModeMoves i s.mode m) :
    Ran i s (finish outcome (setMode m (record e (consumeAnswer s)))) := by
  have h := Ran.requested e outcome m s.life hissued hanswered hmode (lifeMoves_refl ..)
  rwa [setLife_eq_self (by simp)] at h

/-- The shadow's update after ENABLE's write. -/
theorem modeMoves_enable (answer : Option WriteAnswer) (s : State) :
    ModeMoves .enable s.mode (modeAfterWrite .generate answer s) := by
  rcases modeAfterWrite_cases .generate answer s with h | h
  · exact .inr (.inl ⟨rfl, h⟩)
  · exact .inl h

/-- The shadow's update after the write that DISABLE and TEARDOWN share. -/
theorem modeMoves_measure {i : Instr} (hi : i = .disable ∨ i = .teardown)
    (answer : Option WriteAnswer) (s : State) :
    ModeMoves i s.mode (modeAfterWrite .measure answer s) := by
  rcases modeAfterWrite_cases .measure answer s with h | h
  · exact .inr (.inr ⟨hi, h⟩)
  · exact .inl h

/-- Everything a command can do. -/
theorem exec_ran {i : Instr} {s t : State} (h : exec i s = .next t) : Ran i s t := by
  cases i with
  | configure chan dutyNs periodNs =>
    rcases execConfigure_cases h with ⟨-, rfl⟩ | ⟨addr, value, ha, -, ⟨-, rfl⟩ | ⟨hw, rfl⟩⟩
    · exact .cleanRejection ..
    · exact .cleanRejection ..
    · exact .plainRequest (.configure ha hw) (by simp [answered])
  | capture chan timeout =>
    rcases execCapture_cases h with ⟨-, rfl⟩ | ⟨addr, ha, ⟨-, rfl⟩ | ⟨hr, rfl⟩⟩
    · exact .cleanRejection ..
    · exact .cleanRejection ..
    · exact .plainRequest (.capture ha hr) (by simp [answered])
  | enable =>
    rcases execEnable_cases h with ⟨-, rfl⟩ | ⟨hw, rfl⟩
    · exact .cleanRejection ..
    · exact .modeRequest (.enable hw) (by simp [answered]) (modeMoves_enable ..)
  | disable =>
    rcases execDisable_cases h with ⟨-, rfl⟩ | ⟨hw, rfl⟩
    · exact .cleanRejection ..
    · exact .modeRequest (.disable hw) (by simp [answered]) (modeMoves_measure (.inl rfl) ..)
  | teardown =>
    rcases execTeardown_cases h with ⟨-, rfl⟩ | ⟨hw, ⟨ha, rfl⟩ | ⟨a, ha, rfl⟩⟩
    · exact .rejected _ _ (.inr ⟨rfl, rfl⟩)
    · exact .modeRequest (outcome := none) (.teardown hw) (by simp [answered, ha])
        (modeMoves_refl ..)
    · exact .requested _ (some (writeOutcome a)) _ _ (.teardown hw) (by simp [answered, ha])
        (modeMoves_measure (.inr rfl) ..) (.inr ⟨rfl, rfl⟩)
  | setPolarity => obtain rfl := Host.Outcome.next.inj h; exact .cleanRejection ..
  | reserved6 => obtain rfl := Host.Outcome.next.inj h; exact .cleanRejection ..
  | reserved7 => obtain rfl := Host.Outcome.next.inj h; exact .cleanRejection ..

/-- A command adds no event or the one it issues, and has a response just when nothing was left
unanswered. -/
theorem exec_history {i : Instr} {s t : State} (h : exec i s = .next t) :
    (t.history = s.history ∧ t.rsp ≠ none) ∨
    (∃ e, Issues s.cfg i e ∧ t.history = s.history ++ [e] ∧
      ((answered e = true ∧ t.rsp ≠ none) ∨ (answered e = false ∧ t.rsp = s.rsp))) := by
  cases exec_ran h with
  | rejected kind l _ => exact .inl ⟨by simp, by simp⟩
  | requested e outcome m l hissued hanswered _ _ =>
    refine .inr ⟨e, hissued, by simp, ?_⟩
    cases outcome with
    | none => exact .inr ⟨hanswered.symm, by simp⟩
    | some r => exact .inl ⟨hanswered.symm, by simp⟩

/-- What no command touches (R27). -/
theorem exec_frame {i : Instr} {s t : State} (h : exec i s = .next t) :
    t.cfg = s.cfg ∧ t.busy = s.busy ∧ t.host = s.host ∧ t.responses = s.responses := by
  cases exec_ran h with
  | rejected => simp
  | requested => simp

theorem exec_modeMoves {i : Instr} {s t : State} (h : exec i s = .next t) :
    ModeMoves i s.mode t.mode := by
  cases exec_ran h with
  | rejected => exact modeMoves_refl ..
  | requested _ _ _ _ _ _ hmode _ => simpa using hmode

theorem exec_lifeMoves {i : Instr} {s t : State} (h : exec i s = .next t) :
    LifeMoves i s.life t.life := by
  cases exec_ran h with
  | rejected _ _ hlife => exact hlife
  | requested _ _ _ _ _ _ _ hlife => simpa using hlife

theorem exec_history_prefix {i : Instr} {s t : State} (h : exec i s = .next t) :
    s.history <+: t.history := by
  rcases exec_history h with ⟨ht, -⟩ | ⟨e, -, ht, -⟩
  · exact ht ▸ List.prefix_rfl
  · exact ht ▸ List.prefix_append ..

end Sys2Proof.Machine
end

section
/-! PROOFS. spec/10_state.md R22 and spec/30_encoding.md R70: BUSY exactly between acceptance and
delivery. -/

namespace Sys2Proof.Machine

open Sys2Proof.Safety

/-- An idle block that meets the invariant has nothing pending and nothing unanswered. -/
theorem handshakeOk_idle {s : State} (h : HandshakeOk s) (hbusy : s.busy = .idle) :
    s.rsp = none ∧ ∀ e ∈ s.history, answered e = true := by
  rcases h with ⟨-, hrsp, hall⟩ | ⟨hb, -⟩ | ⟨hb, -⟩
  · exact ⟨hrsp, hall⟩
  · exact absurd (hbusy.symm.trans hb) (by decide)
  · exact absurd (hbusy.symm.trans hb) (by decide)

/-- With a response pending every request was answered. -/
theorem handshakeOk_pending {s : State} (h : HandshakeOk s) (hrsp : s.rsp ≠ none) :
    ∀ e ∈ s.history, answered e = true := by
  rcases h with ⟨-, hnone, -⟩ | ⟨-, -, hall⟩ | ⟨-, hnone, -⟩
  · exact absurd hnone hrsp
  · exact hall
  · exact absurd hnone hrsp

/-- A command accepted with nothing pending and nothing unanswered leaves a response pending, or hangs on
its own request. -/
theorem handshakeOk_of_exec {i : Instr} {s t : State} (hbusy : s.busy = .busy) (hrsp : s.rsp = none)
    (hall : ∀ e ∈ s.history, answered e = true) (h : exec i s = .next t) : HandshakeOk t := by
  obtain ⟨-, htbusy, -⟩ := exec_frame h
  rw [hbusy] at htbusy
  rcases exec_history h with ⟨hhist, htrsp⟩ | ⟨e, -, hhist, ⟨he, htrsp⟩ | ⟨he, htrsp⟩⟩
  · exact .inr (.inl ⟨htbusy, htrsp, hhist ▸ hall⟩)
  · refine .inr (.inl ⟨htbusy, htrsp, ?_⟩)
    rw [hhist, List.forall_mem_append, List.forall_mem_singleton]
    exact ⟨hall, he⟩
  · exact .inr (.inr ⟨htbusy, htrsp.trans hrsp, s.history, e, hhist, he, hall⟩)

/-- Settles O49, by the four ways a step can go. -/
theorem stepKeepsHandshake : Obligations.StepKeepsHandshake := by
  intro s t hs h
  rcases step_cases h with ⟨r, -, hrsp, rfl⟩ | ⟨rfl, -⟩ | ⟨rest, -, -, rfl⟩ |
    ⟨word, rest, hbusy, -, -, hrun⟩
  · have hpending : s.rsp ≠ none := by simp [hrsp]
    exact .inl ⟨rfl, rfl, handshakeOk_pending (s := s) hs hpending⟩
  · exact hs
  · exact .inl ⟨rfl, rfl, by simp⟩
  · obtain ⟨hrsp, hall⟩ := handshakeOk_idle hs hbusy
    exact handshakeOk_of_exec (s := acceptCommand rest s) rfl hrsp hall hrun

end Sys2Proof.Machine
end

section
/-! PROOFS. spec/10_state.md R30, spec/20_memory.md R46 and spec/30_encoding.md R82: which transactions the
block ever issues. -/

namespace Sys2Proof.Machine

open Sys2Proof.Safety

/-- R133: a demultiplexed address is a channel register's. -/
theorem channelAddress_bounds {c : Config} {chan addr : Nat} (hc : c.IsPwmctl)
    (h : channelAddress c chan = some addr) : 1 ≤ addr ∧ addr ≤ 6 := by
  obtain ⟨-, hchannels, -, hbase, -⟩ := isPwmctl_constants hc
  simp only [channelAddress, hchannels, hbase, Option.ite_none_right_eq_some,
    Option.some.injEq] at h
  omega

/-- Whatever a command issues with the fixed constants is a channel access or a mode write. -/
theorem Issues.transactionLegal {c : Config} {i : Instr} {e : Event} (hc : c.IsPwmctl)
    (h : Issues c i e) : TransactionLegal c e := by
  obtain ⟨-, -, hmodeReg, -⟩ := isPwmctl_constants hc
  cases h with
  | configure hchan _ => exact .inl (channelAddress_bounds hc hchan)
  | capture hchan _ => exact channelAddress_bounds hc hchan
  | enable _ => exact .inr ⟨hmodeReg, .inr rfl⟩
  | disable _ => exact .inr ⟨hmodeReg, .inl rfl⟩
  | teardown _ => exact .inr ⟨hmodeReg, .inl rfl⟩

theorem transactionsLegal_of_exec {i : Instr} {s t : State} (hc : s.cfg.IsPwmctl)
    (hs : TransactionsLegal s) (h : exec i s = .next t) : TransactionsLegal t := by
  obtain ⟨hcfg, -⟩ := exec_frame h
  unfold TransactionsLegal
  rw [hcfg]
  rcases exec_history h with ⟨hhist, -⟩ | ⟨e, hissued, hhist, -⟩
  · exact hhist ▸ hs
  · rw [hhist, List.forall_mem_append, List.forall_mem_singleton]
    exact ⟨hs, hissued.transactionLegal hc⟩

/-- Settles O51: only an accepted command adds to the history, and what it adds is legal. -/
theorem stepKeepsTransactionsLegal : Obligations.StepKeepsTransactionsLegal := by
  intro s t hc hs h
  rcases step_cases h with ⟨r, -, -, rfl⟩ | ⟨rfl, -⟩ | ⟨rest, -, -, rfl⟩ | ⟨word, rest, -, -, -, hrun⟩
  · exact hs
  · exact hs
  · simp [TransactionsLegal]
  · exact transactionsLegal_of_exec (s := acceptCommand rest s) hc hs hrun

end Sys2Proof.Machine
end

section
/-! PROOFS. spec/10_state.md R20, spec/42_channel_ops.md R135 and spec/43_mode_ops.md R154: no command reads
the mode. A state with another mode is `setMode m s`, and every operation commutes with that. -/

namespace Sys2Proof.Machine

open Sys2Proof.Safety

theorem consumeAnswer_setMode (m : Mode) (s : State) :
    consumeAnswer (setMode m s) = setMode m (consumeAnswer s) := by
  rcases consumeAnswer_cases s with ⟨a, rest, hs, -, h⟩ | ⟨hs, -, h⟩
  · rw [h]; simp [consumeAnswer, hs, setMode]
  · rw [h]; simp [consumeAnswer, hs, setMode]

theorem memRead_setMode (addr timeout : Nat) (m : Mode) (s : State) :
    memRead addr timeout (setMode m s) = setMode m (memRead addr timeout s) := by
  rw [memRead, consumeAnswer_setMode]; rfl

theorem memWrite_setMode (addr : Nat) (value : Byte) (m : Mode) (s : State) :
    memWrite addr value (setMode m s) = setMode m (memWrite addr value s) := by
  rw [memWrite, consumeAnswer_setMode]; rfl

theorem finish_setMode (outcome : Option Response) (m : Mode) (s : State) :
    finish outcome (setMode m s) = setMode m (finish outcome s) := by
  cases outcome <;> rfl

theorem execConfigure_setMode (chan dutyNs periodNs : Nat) (m : Mode) {s t : State}
    (h : exec (.configure chan dutyNs periodNs) s = .next t) :
    exec (.configure chan dutyNs periodNs) (setMode m s) = .next (setMode m t) := by
  obtain rfl := Host.Outcome.next.inj h
  simp only [exec, execConfigure, setMode_cfg, memWrite_setMode, finish_setMode]
  split
  · rfl
  · rfl
  · split <;> rfl

theorem execCapture_setMode (chan timeout : Nat) (m : Mode) {s t : State}
    (h : exec (.capture chan timeout) s = .next t) :
    exec (.capture chan timeout) (setMode m s) = .next (setMode m t) := by
  obtain rfl := Host.Outcome.next.inj h
  simp only [exec, execCapture, setMode_cfg, memRead_setMode, finish_setMode]
  split
  · rfl
  · split <;> rfl

/-- A command that is no mode command runs the same in every mode and keeps it (R135). -/
theorem exec_setMode_of_not_modeCommand {i : Instr} (hi : isModeCommand i = false) (m : Mode)
    {s t : State} (h : exec i s = .next t) : exec i (setMode m s) = .next (setMode m t) := by
  cases i with
  | configure chan dutyNs periodNs => exact execConfigure_setMode _ _ _ m h
  | capture chan timeout => exact execCapture_setMode _ _ m h
  | setPolarity => obtain rfl := Host.Outcome.next.inj h; rfl
  | reserved6 => obtain rfl := Host.Outcome.next.inj h; rfl
  | reserved7 => obtain rfl := Host.Outcome.next.inj h; rfl
  | enable => exact nomatch hi
  | disable => exact nomatch hi
  | teardown => exact nomatch hi

@[simp] theorem modeWrite_rsp (target : Mode) (s : State) : (modeWrite target s).rsp = s.rsp := by
  rcases modeWrite_cases target s with ⟨-, h, -⟩ | ⟨-, h, -⟩
  · rw [h]
  · rw [h]; simp

/-- A mode write's outcome is `Ok` only where the transport's answer was. -/
theorem eq_ok_of_map_writeOutcome {answer : Option WriteAnswer}
    (h : answer.map writeOutcome = some .ok) : answer = some .ok := by
  rcases answer with _ | _ | cause
  · exact nomatch h
  · rfl
  · exact nomatch h

/-- After a successful mode write the shadow is its target, whatever it was (R150, R151). -/
theorem modeWrite_mode_of_ok (target : Mode) {s : State} (h : modeWriteOutcome s = some .ok) :
    (modeWrite target s).mode = target := by
  rcases modeWrite_cases target s with ⟨-, -, hout⟩ | ⟨-, hwrite, hout⟩
  · exact nomatch h.symm.trans hout
  · rw [hwrite, eq_ok_of_map_writeOutcome (hout.symm.trans h)]
    rfl

theorem modeWriteOutcome_setMode (m : Mode) (s : State) :
    modeWriteOutcome (setMode m s) = modeWriteOutcome s := rfl

/-- The two shared steps, started in another mode, end alike but for the mode, and after a success wholly
alike. -/
theorem modeWrite_setMode (target m : Mode) (s : State) :
    ∃ m', modeWrite target (setMode m s) = setMode m' (modeWrite target s) ∧
      (modeWriteOutcome s = some .ok → m' = (modeWrite target s).mode) := by
  rcases modeWrite_cases target s with ⟨hw, h, hout⟩ | ⟨hw, h, -⟩
  · refine ⟨m, by rw [h]; simp [modeWrite, hw], fun hok => nomatch hok.symm.trans hout⟩
  · have hcommutes : modeWrite target (setMode m s) =
        setMode (modeAfterWrite target (writeResult s) (setMode m s)) (modeWrite target s) := by
      rw [h, modeWrite, setMode_cfg, if_pos hw, memWrite_setMode]
      rfl
    refine ⟨_, hcommutes, fun hok => ?_⟩
    calc modeAfterWrite target (writeResult s) (setMode m s)
      _ = (modeWrite target (setMode m s)).mode := (congrArg State.mode hcommutes).symm
      _ = target := modeWrite_mode_of_ok target (s := setMode m s) hok
      _ = (modeWrite target s).mode := (modeWrite_mode_of_ok target hok).symm

/-- With no response pending before, a command reports success only where its last step had it. -/
theorem eq_ok_of_finish_rsp {outcome : Option Response} {s : State} (hrsp : s.rsp = none)
    (h : (finish outcome s).rsp = some .ok) : outcome = some .ok := by
  cases outcome with
  | none => exact nomatch hrsp.symm.trans h
  | some r => exact h

/-- ENABLE's and DISABLE's run in another mode. -/
theorem finish_modeWrite_setMode (target m : Mode) (s : State) :
    let t := finish (modeWriteOutcome s) (modeWrite target s)
    ∃ m', finish (modeWriteOutcome s) (modeWrite target (setMode m s)) = setMode m' t ∧
      (t.rsp = some .ok → s.rsp = none → m' = t.mode) := by
  obtain ⟨m', hwrite, hok⟩ := modeWrite_setMode target m s
  refine ⟨m', by rw [hwrite, finish_setMode], fun ht hs => ?_⟩
  rw [finish_mode]
  exact hok (eq_ok_of_finish_rsp ((modeWrite_rsp target s).trans hs) ht)

/-- TEARDOWN's run in another mode: the lifecycle is set alike (R152). -/
theorem execTeardown_setMode (m : Mode) {s t : State} (h : exec .teardown s = .next t) :
    ∃ m', exec .teardown (setMode m s) = .next (setMode m' t) ∧
      (t.rsp = some .ok → s.rsp = none → m' = t.mode) := by
  obtain rfl := Host.Outcome.next.inj h
  obtain ⟨m', hwrite, hok⟩ := modeWrite_setMode .measure m s
  simp only [exec, execTeardown, modeWriteOutcome_setMode, hwrite]
  rcases hout : modeWriteOutcome s with _ | r
  · exact ⟨m', rfl, fun ht hs => nomatch (hs.symm.trans (modeWrite_rsp ..).symm).trans ht⟩
  · exact ⟨m', rfl, fun ht _ => hok (hout.trans ht)⟩

/-- A mode command runs alike in every mode but for the mode it leaves, and after a success wholly alike
(R154). -/
theorem exec_setMode_of_modeCommand {i : Instr} (hi : isModeCommand i = true) (m : Mode)
    {s t : State} (h : exec i s = .next t) :
    ∃ m', exec i (setMode m s) = .next (setMode m' t) ∧
      (t.rsp = some .ok → s.rsp = none → m' = t.mode) := by
  cases i with
  | enable =>
    obtain rfl := Host.Outcome.next.inj h
    obtain ⟨m', hrun, hok⟩ := finish_modeWrite_setMode .generate m s
    exact ⟨m', congrArg _ hrun, hok⟩
  | disable =>
    obtain rfl := Host.Outcome.next.inj h
    obtain ⟨m', hrun, hok⟩ := finish_modeWrite_setMode .measure m s
    exact ⟨m', congrArg _ hrun, hok⟩
  | teardown => exact execTeardown_setMode m h
  | configure => exact nomatch hi
  | capture => exact nomatch hi
  | setPolarity => exact nomatch hi
  | reserved6 => exact nomatch hi
  | reserved7 => exact nomatch hi

/-- Settles O33, by whether the command is a mode command. -/
theorem modeIsReadByNoCommand : Obligations.ModeIsReadByNoCommand := by
  intro i s m
  obtain ⟨t, h⟩ := exec_total i s
  cases hi : isModeCommand i with
  | false =>
    exact ⟨t, setMode m t, h, exec_setMode_of_not_modeCommand hi m h, rfl, fun _ => rfl, nofun⟩
  | true =>
    obtain ⟨m', hrun, hok⟩ := exec_setMode_of_modeCommand hi m h
    exact ⟨t, setMode m' t, h, hrun, rfl, nofun, fun _ => hok⟩

end Sys2Proof.Machine
end

section
/-! PROOFS. The rules of the whole machine on mode, lifecycle, configuration and histories
(spec/10_state.md R20, R21, R27; spec/43_mode_ops.md R154). -/

namespace Sys2Proof.Machine

open Sys2Proof.Safety

theorem cmdReady_of_idle_live {s : State} (hbusy : s.busy = .idle) (hlife : s.life = .live) :
    cmdReady s = true := by
  simp [cmdReady, hbusy, hlife]

/-- Settles O45: of the four ways a step can go only the run of a command reaches GENERATE, and of the
commands only ENABLE. -/
theorem generateOnlyByEnable : Obligations.GenerateOnlyByEnable := by
  intro s t hs h ht
  rcases step_cases h with ⟨r, -, -, rfl⟩ | ⟨rfl, -⟩ | ⟨rest, -, -, rfl⟩ |
    ⟨word, rest, hbusy, hlife, hhost, hrun⟩
  · simp [hs] at ht
  · simp [hs] at ht
  · simp at ht
  · refine ⟨word, rest, hhost, ?_, cmdReady_of_idle_live hbusy hlife⟩
    rcases exec_modeMoves hrun with hmode | ⟨henable, -⟩ | ⟨-, hmode⟩
    · simp [hs, ht] at hmode
    · exact henable
    · simp [ht] at hmode

/-- Settles O46, by what each of the four ways a step can go does to the lifecycle. -/
theorem lifeChangesOnlyByTeardownAndReset : Obligations.LifeChangesOnlyByTeardownAndReset := by
  intro s t h
  rcases step_cases h with ⟨r, -, -, rfl⟩ | ⟨rfl, -⟩ | ⟨rest, -, hhost, rfl⟩ |
    ⟨word, rest, hbusy, hlife, hhost, hrun⟩
  · exact ⟨fun hs ht => by simp [hs] at ht, fun hs ht => by simp [hs] at ht⟩
  · exact ⟨fun hs ht => by simp [hs] at ht, fun hs ht => by simp [hs] at ht⟩
  · exact ⟨fun _ ht => by simp at ht, fun _ _ => ⟨rest, hhost⟩⟩
  · refine ⟨fun _ ht => ⟨word, rest, hhost, ?_, cmdReady_of_idle_live hbusy hlife⟩,
      fun hs => by simp [hlife] at hs⟩
    rcases exec_lifeMoves hrun with hkept | ⟨hteardown, -⟩
    · simp [hlife, ht] at hkept
    · exact hteardown

/-- Settles O47: a delivery adds a response, a command at most an event, and only a reset takes away. -/
theorem configurationNeverChanges : Obligations.ConfigurationNeverChanges := by
  intro s t h
  rcases step_cases h with ⟨r, -, -, rfl⟩ | ⟨rfl, -⟩ | ⟨rest, -, hhost, rfl⟩ |
    ⟨word, rest, -, -, -, hrun⟩
  · exact ⟨rfl, .inr ⟨List.prefix_rfl, List.prefix_append ..⟩⟩
  · exact ⟨rfl, .inr ⟨List.prefix_rfl, List.prefix_rfl⟩⟩
  · exact ⟨rfl, .inl ⟨rest, hhost⟩⟩
  · obtain ⟨hcfg, -, -, hresponses⟩ := exec_frame hrun
    have hhistory := exec_history_prefix (s := acceptCommand rest s) hrun
    exact ⟨hcfg, .inr ⟨hhistory, hresponses ▸ List.prefix_rfl⟩⟩

end Sys2Proof.Machine
end

section
/-! PROOFS. spec/10_state.md R33 and spec/70_reset_and_hazards.md R190, R191: the block at reset. -/

namespace Sys2Proof.Machine

open Sys2Proof.Safety

/-- Settles O44, each value by its definition. -/
theorem resetValues : Obligations.ResetValues :=
  ⟨rfl, rfl, rfl, rfl, rfl, rfl, ⟨rfl, by decide⟩, rfl, rfl, rfl, rfl, rfl⟩

/-- Settles O53: with an empty history, MEASURE, LIVE and nothing pending each invariant is immediate. -/
theorem resetMeetsTheInvariants : Obligations.ResetMeetsTheInvariants := by
  obtain ⟨hmode, hlife, hbusy, hrsp, hhistory, -⟩ := resetValues
  refine ⟨?_, .inl ⟨hbusy, hrsp, ?_⟩, ?_, ?_, ?_⟩
  · simp [HistoryPermitted, hhistory]
  · simp [hhistory]
  · simp [ShadowAgrees, hhistory, hmode]
  · simp [TransactionsLegal, hhistory]
  · simp [TornDownByModeReset, hlife]

end Sys2Proof.Machine
end

section
/-! PROOFS. spec/20_memory.md R45: the access table is asked before every transaction. -/

namespace Sys2Proof.Machine

open Sys2Proof.Safety

/-- R45: whatever a command issues, the access table allows. -/
theorem Issues.permitted {c : Config} {i : Instr} {e : Event} (h : Issues c i e) :
    permitted c e = true := by
  cases h with
  | configure _ hpermitted => exact hpermitted
  | capture _ hpermitted => exact hpermitted
  | enable hpermitted => exact hpermitted
  | disable hpermitted => exact hpermitted
  | teardown hpermitted => exact hpermitted

theorem historyPermitted_of_exec {i : Instr} {s t : State} (hs : HistoryPermitted s)
    (h : exec i s = .next t) : HistoryPermitted t := by
  obtain ⟨hcfg, -⟩ := exec_frame h
  unfold HistoryPermitted
  rw [hcfg]
  rcases exec_history h with ⟨hhist, -⟩ | ⟨e, hissued, hhist, -⟩
  · exact hhist ▸ hs
  · rw [hhist, List.forall_mem_append, List.forall_mem_singleton]
    exact ⟨hs, hissued.permitted⟩

/-- Settles O48: only an accepted command adds to the history, what it adds is permitted by the lists it
was checked against, and those never change. -/
theorem stepKeepsHistoryPermitted : Obligations.StepKeepsHistoryPermitted := by
  intro s t hs h
  rcases step_cases h with ⟨r, -, -, rfl⟩ | ⟨rfl, -⟩ | ⟨rest, -, -, rfl⟩ | ⟨word, rest, -, -, -, hrun⟩
  · exact hs
  · exact hs
  · simp [HistoryPermitted]
  · exact historyPermitted_of_exec (s := acceptCommand rest s) hs hrun

end Sys2Proof.Machine
end

section
/-! PROOFS. spec/30_encoding.md R71 to R73 and R83: decoding in one equation, the command that the selector
names on the word's fields; the encoding statements are derived from it. -/

namespace Sys2Proof

open Laws.EncodesOpcode (op_of_cmdWord)

/-- `op`, bits 106:104 at the default widths, as a number (R71). -/
def opField (c : Config) (w : CmdWord c) : Nat := cmdField w c.opLo 3

/-- The command a selector names on given fields (R72). -/
def commandOf (op chan dutyNs periodNs timeout : Nat) : Instr :=
  match op with
  | 0 => .configure chan dutyNs periodNs
  | 1 => .capture chan timeout
  | 2 => .setPolarity
  | 3 => .enable
  | 4 => .disable
  | 5 => .teardown
  | 6 => .reserved6
  | _ => .reserved7

theorem toNat_eq_of_selectorBits :
    ∀ b : BitVec 3, b.toNat =
      4 * (b.getLsbD 2).toNat + 2 * (b.getLsbD 1).toNat + (b.getLsbD 0).toNat := by
  decide

/-- The three bits decoding looks at are the number `op`. -/
theorem opField_eq_selectorBits (c : Config) (w : CmdWord c) :
    opField c w = 4 * (w.getLsbD (c.opLo + 2)).toNat + 2 * (w.getLsbD (c.opLo + 1)).toNat +
      (w.getLsbD c.opLo).toNat := by
  simp [opField, cmdField, toNat_eq_of_selectorBits]

/-- R83: decoding looks at `op`, and then at the fields of the command it names. -/
theorem decode_eq_commandOf (c : Config) (w : CmdWord c) :
    decode c w = commandOf (opField c w) (chanField c w) (dutyField c w) (periodField c w)
      (timeoutField c w) := by
  rw [opField_eq_selectorBits, decode]
  cases w.getLsbD (c.opLo + 2) <;> cases w.getLsbD (c.opLo + 1) <;> cases w.getLsbD c.opLo <;> rfl

theorem opField_cmdWord (c : Config) (op : BitVec 3) (chan dutyNs periodNs timeout : Nat) :
    opField c (cmdWord c op chan dutyNs periodNs timeout) = op.toNat :=
  congrArg BitVec.toNat (op_of_cmdWord ..)

/-- Of a word put together from fields decoding sees each field's low bits. -/
theorem decode_cmdWord (c : Config) (op : BitVec 3) (chan dutyNs periodNs timeout : Nat) :
    decode c (cmdWord c op chan dutyNs periodNs timeout) =
      commandOf op.toNat (chan % 2 ^ c.chanWidth) (dutyNs % 2 ^ c.dutyWidth)
        (periodNs % 2 ^ c.dutyWidth) (timeout % 2 ^ c.timeoutWidth) := by
  rw [decode_eq_commandOf, opField_cmdWord, chanField_cmdWord, dutyField_cmdWord,
    periodField_cmdWord, timeoutField_cmdWord]

theorem wf_configure_iff (c : Config) (chan dutyNs periodNs : Nat) :
    (Instr.configure chan dutyNs periodNs).wf c = true ↔
      chan < 2 ^ c.chanWidth ∧ dutyNs < 2 ^ c.dutyWidth ∧ periodNs < 2 ^ c.dutyWidth := by
  simp [Instr.wf, fitsWidth_iff, and_assoc]

theorem wf_capture_iff (c : Config) (chan timeout : Nat) :
    (Instr.capture chan timeout).wf c = true ↔
      chan < 2 ^ c.chanWidth ∧ timeout < 2 ^ c.timeoutWidth := by
  simp [Instr.wf, fitsWidth_iff]

/-- Settles O14: the selector comes back from its three bits, and an operand within its width is its own
low bits. -/
theorem decodeOfEncodeIsIdentity : Obligations.DecodeOfEncodeIsIdentity := by
  intro c i hwf
  cases i with
  | configure chan dutyNs periodNs =>
    obtain ⟨hchan, hduty, hperiod⟩ := (wf_configure_iff ..).mp hwf
    rw [encode, decode_cmdWord, Nat.mod_eq_of_lt hchan, Nat.mod_eq_of_lt hduty,
      Nat.mod_eq_of_lt hperiod]
    rfl
  | capture chan timeout =>
    obtain ⟨hchan, htimeout⟩ := (wf_capture_iff ..).mp hwf
    rw [encode, decode_cmdWord, Nat.mod_eq_of_lt hchan, Nat.mod_eq_of_lt htimeout]
    rfl
  | setPolarity => exact decode_cmdWord ..
  | enable => exact decode_cmdWord ..
  | disable => exact decode_cmdWord ..
  | teardown => exact decode_cmdWord ..
  | reserved6 => exact decode_cmdWord ..
  | reserved7 => exact decode_cmdWord ..

/-- A field put on wires of its own width is the wires it was read from. -/
theorem ofNat_cmdField {n : Nat} (w : BitVec n) (lo width : Nat) :
    BitVec.ofNat width (cmdField w lo width) = w.extractLsb' lo width := by
  rw [cmdField, BitVec.ofNat_toNat, BitVec.setWidth_eq]

/-- R71: a word is the concatenation of its fields. -/
theorem cmdWord_fields (c : Config) (w : CmdWord c) :
    cmdWord c (w.extractLsb' c.opLo 3) (chanField c w) (dutyField c w) (periodField c w)
      (timeoutField c w) = w := by
  rw [cmdWord, chanField, dutyField, periodField, timeoutField, ofNat_cmdField, ofNat_cmdField,
    ofNat_cmdField, ofNat_cmdField,
    BitVec.extractLsb'_append_extractLsb'_eq_extractLsb' rfl,
    BitVec.extractLsb'_append_extractLsb'_eq_extractLsb' rfl,
    BitVec.extractLsb'_append_extractLsb'_eq_extractLsb' rfl,
    BitVec.extractLsb'_append_extractLsb'_eq_extractLsb' (Nat.zero_add _).symm,
    BitVec.extractLsb'_eq_self]

theorem cmdWord_and_cmdWord (c : Config) (op op' : BitVec 3)
    (chan chan' dutyNs dutyNs' periodNs periodNs' timeout timeout' : Nat) :
    cmdWord c op chan dutyNs periodNs timeout &&& cmdWord c op' chan' dutyNs' periodNs' timeout' =
      cmdWord c (op &&& op') (chan &&& chan') (dutyNs &&& dutyNs') (periodNs &&& periodNs')
        (timeout &&& timeout') := by
  simp only [cmdWord, BitVec.and_append, BitVec.ofNat_and]

theorem and_fullField {v width : Nat} (h : v < 2 ^ width) : v &&& fullField width = v :=
  Nat.and_two_pow_sub_one_of_lt_two_pow h

theorem and_allSelectorBits : ∀ op : BitVec 3, op &&& 0b111 = op := by decide

/-- R72: every value of `op` is some command's. -/
theorem exists_opBits_eq (op : BitVec 3) : ∃ i, opBits i = op :=
  ⟨commandOf op.toNat 0 0 0 0, by decide +revert⟩

/-- Encoding a command on the fields of a word keeps the bits the command reads. -/
theorem encode_commandOf (c : Config) (op : BitVec 3) {chan dutyNs periodNs timeout : Nat}
    (hchan : chan < 2 ^ c.chanWidth) (hduty : dutyNs < 2 ^ c.dutyWidth)
    (hperiod : periodNs < 2 ^ c.dutyWidth) (htimeout : timeout < 2 ^ c.timeoutWidth) :
    encode c (commandOf op.toNat chan dutyNs periodNs timeout) =
      cmdWord c op chan dutyNs periodNs timeout &&&
        readMask c (commandOf op.toNat chan dutyNs periodNs timeout) := by
  have hselectorOnly : cmdWord c op 0 0 0 0 =
      cmdWord c op chan dutyNs periodNs timeout &&& cmdWord c 0b111 0 0 0 0 := by
    simp only [cmdWord_and_cmdWord, and_allSelectorBits, Nat.and_zero]
  obtain ⟨i, rfl⟩ := exists_opBits_eq op
  cases i with
  | configure =>
    simp [opBits, commandOf, encode, readMask, cmdWord_and_cmdWord, and_fullField hchan,
      and_fullField hduty, and_fullField hperiod]
  | capture =>
    simp [opBits, commandOf, encode, readMask, cmdWord_and_cmdWord, and_fullField hchan,
      and_fullField htimeout]
  | setPolarity => exact hselectorOnly
  | enable => exact hselectorOnly
  | disable => exact hselectorOnly
  | teardown => exact hselectorOnly
  | reserved6 => exact hselectorOnly
  | reserved7 => exact hselectorOnly

theorem wf_commandOf (c : Config) (op : Nat) {chan dutyNs periodNs timeout : Nat}
    (hchan : chan < 2 ^ c.chanWidth) (hduty : dutyNs < 2 ^ c.dutyWidth)
    (hperiod : periodNs < 2 ^ c.dutyWidth) (htimeout : timeout < 2 ^ c.timeoutWidth) :
    (commandOf op chan dutyNs periodNs timeout).wf c = true := by
  unfold commandOf
  split
  case h_1 => exact (wf_configure_iff ..).mpr ⟨hchan, hduty, hperiod⟩
  case h_2 => exact (wf_capture_iff ..).mpr ⟨hchan, htimeout⟩
  all_goals rfl

/-- Settles O15: a word is the concatenation of its fields, and each is within its width. -/
theorem encodeOfDecodeKeepsTheReadBits : Obligations.EncodeOfDecodeKeepsTheReadBits := by
  intro c w
  have hchan : chanField c w < 2 ^ c.chanWidth := cmdField_lt ..
  have hduty : dutyField c w < 2 ^ c.dutyWidth := cmdField_lt ..
  have hperiod : periodField c w < 2 ^ c.dutyWidth := cmdField_lt ..
  have htimeout : timeoutField c w < 2 ^ c.timeoutWidth := cmdField_lt ..
  rw [decode_eq_commandOf]
  refine ⟨wf_commandOf c _ hchan hduty hperiod htimeout, ?_⟩
  have h := encode_commandOf c (w.extractLsb' c.opLo 3) hchan hduty hperiod htimeout
  rwa [cmdWord_fields] at h

/-- R83: every command reads all of `op`. -/
theorem op_of_readMask (c : Config) (i : Instr) : (readMask c i).extractLsb' c.opLo 3 = 0b111 := by
  cases i <;> exact op_of_cmdWord ..

theorem opField_and_readMask (c : Config) (w : CmdWord c) (i : Instr) :
    opField c (w &&& readMask c i) = opField c w := by
  rw [opField, cmdField, BitVec.extractLsb'_and, op_of_readMask, and_allSelectorBits]
  rfl

/-- Which bits a command reads depends on its selector alone. -/
theorem readMask_decode_congr {c : Config} {w w' : CmdWord c} (h : opField c w = opField c w') :
    readMask c (decode c w) = readMask c (decode c w') := by
  rw [decode_eq_commandOf, decode_eq_commandOf, h]
  unfold commandOf
  split <;> rfl

/-- Settles O16: the two words have the same selector, so the bits read are the same, and those are the
encoding of what each decodes to. -/
theorem ignoredFieldsNeverDecoded : Obligations.IgnoredFieldsNeverDecoded := by
  intro c w w' h
  obtain ⟨hwf, henc⟩ := encodeOfDecodeKeepsTheReadBits c w
  obtain ⟨hwf', henc'⟩ := encodeOfDecodeKeepsTheReadBits c w'
  have hop : opField c w = opField c w' := by
    rw [← opField_and_readMask c w, h, opField_and_readMask]
  have hsame : encode c (decode c w') = encode c (decode c w) := by
    rw [henc, henc', ← readMask_decode_congr hop, h]
  rw [← decodeOfEncodeIsIdentity c _ hwf', hsame, decodeOfEncodeIsIdentity c _ hwf]

/-! ### The printed positions -/

/-- A field of a word given as a number, by division alone. -/
theorem cmdField_portWord {c : Config} {n : Nat} (hn : n < 2 ^ c.cmdWidth) (lo width : Nat) :
    cmdField (portWord c n) lo width = n / 2 ^ lo % 2 ^ width := by
  rw [cmdField, BitVec.extractLsb'_toNat, portWord, BitVec.toNat_ofNat, Nat.mod_eq_of_lt hn,
    Nat.shiftRight_eq_div_pow]

theorem decodeNumber_eq_commandOf {c : Config} {n : Nat} (hn : n < 2 ^ c.cmdWidth) :
    decodeNumber c n = .ok (commandOf (n / 2 ^ c.opLo % 2 ^ 3)
      (n / 2 ^ c.chanLo % 2 ^ c.chanWidth) (n / 2 ^ c.dutyLo % 2 ^ c.dutyWidth)
      (n / 2 ^ c.periodLo % 2 ^ c.dutyWidth) (n % 2 ^ c.timeoutWidth)) := by
  rw [decodeNumber, if_pos hn, decode_eq_commandOf, opField, chanField, dutyField, periodField,
    timeoutField]
  simp only [cmdField_portWord hn, Nat.pow_zero, Nat.div_one]

/-- Settles O56: at the default widths the fields begin at R71's positions, and nothing stands above
`op`. -/
theorem fieldsAtThePrintedPositions : Obligations.FieldsAtThePrintedPositions := by
  rintro c w ⟨hduty, hchan, htimeout, -⟩ hw
  have hwidth : c.cmdWidth = 107 := by simp only [Config.cmdWidth, hduty, hchan, htimeout]
  have hop : w / 2 ^ 104 % 2 ^ 3 = w / 2 ^ 104 := Nat.mod_eq_of_lt (by omega)
  rw [decodeNumber_eq_commandOf (hwidth ▸ hw)]
  simp only [Config.opLo, Config.chanLo, Config.dutyLo, Config.periodLo, hduty, hchan, htimeout,
    Nat.reduceAdd, hop]
  rfl

/-- Settles O17, each word by evaluation. -/
theorem specWordsDecodeAsWritten : Obligations.SpecWordsDecodeAsWritten := by
  unfold Obligations.SpecWordsDecodeAsWritten
  decide

end Sys2Proof
end

section
/-! PROOFS. The response port's word and the transport's words (spec/30_encoding.md R75 to R78), and the
text form (R84). -/

namespace Sys2Proof.Machine

/-- Each of four fields put one after another stands above the ones after it. -/
theorem fields_of_append {i j k l : Nat} (a : BitVec i) (b : BitVec j) (d : BitVec k)
    (e : BitVec l) :
    (a ++ b ++ d ++ e).extractLsb' (l + k + j) i = a ∧ (a ++ b ++ d ++ e).extractLsb' (l + k) j = b ∧
    (a ++ b ++ d ++ e).extractLsb' l k = d ∧ (a ++ b ++ d ++ e).extractLsb' 0 l = e := by
  refine ⟨?_, ?_, ?_, BitVec.extractLsb'_append_eq_right⟩
  · rw [BitVec.extractLsb'_append_eq_of_le (by omega), BitVec.extractLsb'_append_eq_of_le (by omega),
      show l + k + j - l - k = j by omega, BitVec.extractLsb'_append_eq_left]
  · rw [BitVec.extractLsb'_append_eq_of_le (by omega), Nat.add_sub_cancel_left,
      BitVec.extractLsb'_append_eq_of_le (Nat.le_refl _), Nat.sub_self,
      BitVec.extractLsb'_append_eq_right]
  · rw [BitVec.extractLsb'_append_eq_of_le (Nat.le_refl _), Nat.sub_self,
      BitVec.extractLsb'_append_eq_right]

/-- R76: 5, 6 and 7 are never produced. -/
theorem statusCode_le (r : Response) : (statusCode r).toNat ≤ 4 := by
  rcases r with _ | _ | _ | _ | _ | _
  all_goals simp [statusCode]

theorem results_eq_zero {r : Response} (h : ∀ d p, r ≠ .captured d p) :
    dutyResult r = 0 ∧ periodResult r = 0 := by
  cases r with
  | ok => exact ⟨rfl, rfl⟩
  | captured d p => exact absurd rfl (h d p)
  | error kind => exact ⟨rfl, rfl⟩

theorem causeField_eq_zero {r : Response} (h : ∀ e, r ≠ .error (.transportFailure e)) :
    causeField r = 0 := by
  rcases r with _ | _ | _ | _ | _ | e
  case error.transportFailure => exact absurd rfl (h e)
  all_goals rfl

/-- Settles O18: the word is four fields one after another; what each carries is a case on the response. -/
theorem responseWordFields : Obligations.ResponseWordFields := by
  refine ⟨fun c r => fields_of_append .., ?_, fun _ _ => ⟨rfl, rfl⟩,
    fun r => ⟨statusCode_le r, results_eq_zero, causeField_eq_zero⟩,
    rfl, fun _ _ => rfl, rfl, rfl, rfl, fun _ => ⟨rfl, rfl⟩⟩
  rintro c ⟨hduty, -, -, hterr⟩
  simp only [hduty, hterr, and_self]

theorem answers_of_err {x : XRsp} (h : x.err = true) :
    readAnswerOf x = .err x.terr ∧ writeAnswerOf x = .err x.terr :=
  ⟨if_pos h, if_pos h⟩

theorem answers_of_not_err {x : XRsp} (h : x.err = false) :
    readAnswerOf x = .ok x.rdata ∧ writeAnswerOf x = .ok := by
  simp [readAnswerOf, writeAnswerOf, h]

/-- Settles O19: a request word is four fields one after another, and an answer is a case on `err`. -/
theorem transportWordFields : Obligations.TransportWordFields :=
  ⟨fun _ _ _ _ => fields_of_append .., fun _ _ _ _ => fields_of_append ..,
    fun c w => ⟨answers_of_err (x := xrspOfWord c w), answers_of_not_err (x := xrspOfWord c w)⟩,
    fun _ ⟨_, _, htimeout, hterr⟩ => ⟨htimeout, hterr⟩⟩

/-- Settles O20: each mnemonic is its own, and the operands come in the order they are read. -/
theorem textFormReadsBack : Obligations.TextFormReadsBack := by
  refine ⟨?_, fun _ _ => rfl, fun _ => rfl, fun operands => ?_⟩
  · intro i h6 h7
    cases i with
    | configure => rfl
    | capture => rfl
    | setPolarity => rfl
    | enable => rfl
    | disable => rfl
    | teardown => rfl
    | reserved6 => exact absurd rfl h6
    | reserved7 => exact absurd rfl h7
  · simp [assemble, mnemonic]

end Sys2Proof.Machine
end

section
/-! PROOFS. The handshake around one command (spec/30_encoding.md R70, R74, R79): acceptance, the run of the
decoded command, and the delivery of its response. -/

namespace Sys2Proof.Machine

/-- R70: a ready block accepts the presented word and runs what it decodes to. -/
theorem step_of_ready {s : State} {word : Nat} {rest : List HostMove} (hbusy : s.busy = .idle)
    (hlife : s.life = .live) (hhost : s.host = .present word :: rest) :
    step s = exec (decode s.cfg (portWord s.cfg word)) (acceptCommand rest s) := by
  simp only [step, handshake, hbusy, hlife, hhost]

/-- R70: a pending response is delivered, whatever the host's next move. -/
theorem step_of_pending {s : State} {r : Response} (hbusy : s.busy = .busy) (hrsp : s.rsp = some r) :
    step s = .next (deliverResponse r s) := by
  simp only [step, handshake, hbusy, hrsp]

theorem cmdReady_iff (s : State) : cmdReady s = true ↔ s.busy = .idle ∧ s.life = .live := by
  simp [cmdReady]

theorem rspValid_iff (s : State) : rspValid s = true ↔ ∃ r, s.rsp = some r :=
  Option.isSome_iff_exists

theorem finish_rsp_of_some {outcome : Option Response} {r : Response} (h : outcome = some r)
    (s : State) : (finish outcome s).rsp = some r := by
  rw [h]; rfl

/-- With an answering transport every command ends with a response (R170). -/
theorem exec_rsp_of_answered {i : Instr} {s t : State} {x : XRsp} (hanswer : nextAnswer s = some x)
    (h : exec i s = .next t) : ∃ r, t.rsp = some r := by
  have hread := readResult_some hanswer
  have hwrite := writeResult_some hanswer
  cases i with
  | configure =>
    rcases execConfigure_cases h with ⟨-, rfl⟩ | ⟨_, _, -, -, ⟨-, rfl⟩ | ⟨-, rfl⟩⟩
    · exact ⟨_, rfl⟩
    · exact ⟨_, rfl⟩
    · exact ⟨_, finish_rsp_of_some (by rw [hwrite]; rfl) _⟩
  | capture =>
    rcases execCapture_cases h with ⟨-, rfl⟩ | ⟨_, -, ⟨-, rfl⟩ | ⟨-, rfl⟩⟩
    · exact ⟨_, rfl⟩
    · exact ⟨_, rfl⟩
    · exact ⟨_, finish_rsp_of_some (by rw [hread]; rfl) _⟩
  | enable =>
    rcases execEnable_cases h with ⟨-, rfl⟩ | ⟨-, rfl⟩
    · exact ⟨_, rfl⟩
    · exact ⟨_, finish_rsp_of_some (by rw [hwrite]; rfl) _⟩
  | disable =>
    rcases execDisable_cases h with ⟨-, rfl⟩ | ⟨-, rfl⟩
    · exact ⟨_, rfl⟩
    · exact ⟨_, finish_rsp_of_some (by rw [hwrite]; rfl) _⟩
  | teardown =>
    rcases execTeardown_cases h with ⟨-, rfl⟩ | ⟨-, ⟨hnone, -⟩ | ⟨_, -, rfl⟩⟩
    · exact ⟨_, rfl⟩
    · exact nomatch hnone.symm.trans hwrite
    · exact ⟨_, rfl⟩
  | setPolarity => obtain rfl := Host.Outcome.next.inj h; exact ⟨_, rfl⟩
  | reserved6 => obtain rfl := Host.Outcome.next.inj h; exact ⟨_, rfl⟩
  | reserved7 => obtain rfl := Host.Outcome.next.inj h; exact ⟨_, rfl⟩

/-- Settles O39: the run leaves a response pending, and the next step delivers it. -/
theorem answeredCommandRespondsInTwoSteps : Obligations.AnsweredCommandRespondsInTwoSteps := by
  intro s word rest x hbusy hlife hhost hanswer
  obtain ⟨t, hrun⟩ := exec_total (decode s.cfg (portWord s.cfg word)) (acceptCommand rest s)
  obtain ⟨-, htbusy, hthost, htresponses⟩ := exec_frame hrun
  obtain ⟨r, hr⟩ := exec_rsp_of_answered (s := acceptCommand rest s) hanswer hrun
  exact ⟨t, deliverResponse r t, r, (step_of_ready hbusy hlife hhost).trans hrun,
    step_of_pending htbusy hr, hr, congrArg (· ++ [r]) htresponses, rfl, rfl, hthost⟩

/-- Settles O40: of the four ways a step can go only the run of a command takes a presented word off the
host's list. -/
theorem acceptedExactlyWhenReady : Obligations.AcceptedExactlyWhenReady := by
  intro s word rest hhost
  rw [cmdReady_iff]
  constructor
  · rintro ⟨hbusy, hlife⟩
    obtain ⟨t, hrun⟩ := exec_total (decode s.cfg (portWord s.cfg word)) (acceptCommand rest s)
    obtain ⟨-, -, hthost, -⟩ := exec_frame hrun
    exact ⟨t, (step_of_ready hbusy hlife hhost).trans hrun, hthost⟩
  · rintro ⟨t, hstep, ht⟩
    have hstays : s.host ≠ rest := by simp [hhost]
    rcases step_cases hstep with ⟨r, -, -, rfl⟩ | ⟨rfl, -⟩ | ⟨_, -, hreset, -⟩ |
      ⟨_, _, hbusy, hlife, -⟩
    · exact absurd ht hstays
    · exact absurd ht hstays
    · exact nomatch hhost.symm.trans hreset
    · exact ⟨hbusy, hlife⟩

/-- Settles O24, by the reserved selectors' meanings. -/
theorem reservedSelectorsUnsupported : Obligations.ReservedSelectorsUnsupported :=
  fun _ => ⟨rfl, rfl⟩

/-- Settles O37: a block that a word was placed before is ready too. -/
theorem stepRunsTheDecodedCommand : Obligations.StepRunsTheDecodedCommand :=
  ⟨fun _ _ _ hbusy hlife hhost => step_of_ready hbusy hlife hhost,
    fun s _ w => step_of_ready (s := presentNext w s) rfl rfl rfl⟩

/-- Settles O38, by the delivery. -/
theorem pendingResponseIsDelivered : Obligations.PendingResponseIsDelivered :=
  fun _ _ hbusy hrsp => step_of_pending hbusy hrsp

theorem modeOutput_iff (s : State) :
    (modeOutput s = 0 ↔ s.mode = .measure) ∧ (modeOutput s = 1 ↔ s.mode = .generate) := by
  unfold modeOutput
  cases s.mode <;> decide

theorem lifeOutput_iff (s : State) :
    (lifeOutput s = 0 ↔ s.life = .live) ∧ (lifeOutput s = 1 ↔ s.life = .destroyed) := by
  unfold lifeOutput
  cases s.life <;> decide

theorem rspOutput_of_pending {s : State} {r : Response} (h : s.rsp = some r) :
    rspOutput s = some (responseWord s.cfg r) := by
  simp [rspOutput, h]

/-- Settles O55: each output is read off its own field, and the response shown is the one pending. -/
theorem outputsShowTheState : Obligations.OutputsShowTheState := by
  intro s
  obtain ⟨hmeasure, hgenerate⟩ := modeOutput_iff s
  obtain ⟨hlive, hdestroyed⟩ := lifeOutput_iff s
  refine ⟨hmeasure, hgenerate, hlive, hdestroyed, cmdReady_iff s,
    (rspValid_iff s).trans Option.ne_none_iff_exists'.symm, fun h => by simp [rspOutput, h],
    fun _ => rspOutput_of_pending, ?_⟩
  intro t hbusy hvalid hstep
  obtain ⟨r, hr⟩ := (rspValid_iff s).mp hvalid
  obtain rfl := Host.Outcome.next.inj ((step_of_pending hbusy hr).symm.trans hstep)
  exact ⟨r, rspOutput_of_pending hr, rfl, rfl⟩

end Sys2Proof.Machine
end

section
/-! PROOFS. spec/40_access_table.md: which addresses the two predicates permit (R100 to R104), and how many
addresses each access class holds (R105). -/

namespace Sys2Proof.Machine

/-- R43: the pairs are inclusive at both ends. -/
theorem inRanges_iff (ranges : List (Nat × Nat)) (addr : Nat) :
    inRanges ranges addr = true ↔ ∃ r ∈ ranges, r.1 ≤ addr ∧ addr ≤ r.2 := by
  simp [inRanges]

/-- R100 on the printed list; the two one-address ranges are equalities. -/
theorem canRead_iff {cfg : Config} (hc : cfg.IsPwmctl) (addr : Nat) :
    canRead cfg addr = true ↔ (0x01 ≤ addr ∧ addr ≤ 0x06) ∨ addr = 0x0A ∨ addr = 0x0C := by
  obtain ⟨-, -, -, -, -, -, -, -, -, hread, -⟩ := isPwmctl_constants hc
  rw [canRead, hread, inRanges_iff]
  simp only [List.exists_mem_cons_iff, List.not_mem_nil, false_and, exists_false, or_false]
  omega

/-- R101 on the printed list. -/
theorem canWrite_iff {cfg : Config} (hc : cfg.IsPwmctl) (addr : Nat) :
    canWrite cfg addr = true ↔ (0x00 ≤ addr ∧ addr ≤ 0x06) ∨ addr = 0x0B := by
  obtain ⟨-, -, -, -, -, -, -, -, -, -, hwrite⟩ := isPwmctl_constants hc
  rw [canWrite, hwrite, inRanges_iff]
  simp only [List.exists_mem_cons_iff, List.not_mem_nil, false_and, exists_false, or_false]
  omega

/-- R104: no address of the permitted sets lies beyond `MAX_REGISTER`. -/
theorem not_permitted_of_maxRegister_lt {cfg : Config} {addr : Nat} (hc : cfg.IsPwmctl)
    (h : cfg.maxRegister < addr) : canRead cfg addr = false ∧ canWrite cfg addr = false := by
  obtain ⟨hmax, -⟩ := isPwmctl_constants hc
  rw [← Bool.not_eq_true, ← Bool.not_eq_true, canRead_iff hc, canWrite_iff hc]
  omega

/-- R105: a class reads the two lists only, and no parameter of R10 is in them. -/
theorem accessClass_eq_default {cfg : Config} (hc : cfg.IsPwmctl) :
    accessClass cfg = accessClass Config.default := by
  rw [hc.1]
  rfl

/-- R104, R105: an address beyond `MAX_REGISTER` is in neither set. -/
theorem accessClass_of_maxRegister_lt {cfg : Config} {addr : Nat} (hc : cfg.IsPwmctl)
    (h : cfg.maxRegister < addr) : accessClass cfg addr = .neither := by
  obtain ⟨hread, hwrite⟩ := not_permitted_of_maxRegister_lt hc h
  rw [accessClass, hread, hwrite]

/-- R105: a class's addresses are counted up to `MAX_REGISTER`; the 243 above it are all in neither set. -/
theorem length_filter_accessClass {cfg : Config} (hc : cfg.IsPwmctl) (k : AccessClass) :
    ((List.range 256).filter fun a => accessClass cfg a == k).length =
      ((List.range 13).filter fun a => accessClass Config.default a == k).length +
        if AccessClass.neither = k then 243 else 0 := by
  obtain ⟨hmax, -⟩ := isPwmctl_constants hc
  have habove (a : Nat) : accessClass cfg (13 + a) = .neither :=
    accessClass_of_maxRegister_lt hc (by omega)
  rw [show 256 = 13 + 243 from rfl, List.range_add, List.filter_append, List.length_append,
    List.filter_map, List.length_map, ← accessClass_eq_default hc]
  simp only [Function.comp_def, habove]
  by_cases hk : AccessClass.neither = k <;> simp [hk]

/-- Settles O1, on the printed readable list. -/
theorem canReadExactlyTheReadableSet : Obligations.CanReadExactlyTheReadableSet :=
  fun _ addr hc => canRead_iff hc addr

/-- Settles O2, on the printed writable list. -/
theorem canWriteExactlyTheWritableSet : Obligations.CanWriteExactlyTheWritableSet :=
  fun _ addr hc => canWrite_iff hc addr

/-- Settles O3: each predicate reads its own list only, and the permitted sets end at `MAX_REGISTER`. -/
theorem accessPredicatesIndependentAndTotal : Obligations.AccessPredicatesIndependentAndTotal :=
  fun _ _ _ => ⟨rfl, rfl, not_permitted_of_maxRegister_lt⟩

/-- Settles O4: the addresses up to `MAX_REGISTER` are counted, for all parameters at once. -/
theorem accessClassCounts : Obligations.AccessClassCounts := by
  intro cfg hc
  simp only [length_filter_accessClass hc]
  decide

end Sys2Proof.Machine
end

section
/-! PROOFS. spec/41_unit_converter.md R110 to R121: both conversions as linear arithmetic at the fixed
constants, the forward one through its thresholds `lo(v)` (R111). -/

namespace Sys2Proof.Machine

/-- R110: the two truncating steps at the fixed constants. -/
theorem deviceValue_eq {cfg : Config} (hc : cfg.IsPwmctl) (dutyNs : Nat) :
    deviceValue cfg dutyNs = 10 * (dutyNs / 125) / 1024 := by
  obtain ⟨-, -, -, -, hdenom, hscale, hshift, -⟩ := isPwmctl_constants hc
  rw [deviceValue, hdenom, hscale, hshift, Nat.shiftRight_eq_div_pow]

/-- R110: the two truncating steps and the test. -/
theorem toDeviceUnit_eq {cfg : Config} (hc : cfg.IsPwmctl) (dutyNs : Nat) :
    toDeviceUnit cfg dutyNs = if 10 * (dutyNs / 125) / 1024 > 255 then none
      else some (BitVec.ofNat 8 (10 * (dutyNs / 125) / 1024)) := by
  obtain ⟨-, -, -, -, -, -, -, hmax, -⟩ := isPwmctl_constants hc
  rw [toDeviceUnit, hmax, deviceValue_eq hc]

/-- R113: rejection is a test on the full-width value. -/
theorem toDeviceUnit_eq_none_iff {cfg : Config} (hc : cfg.IsPwmctl) (dutyNs : Nat) :
    toDeviceUnit cfg dutyNs = none ↔ 256 ≤ deviceValue cfg dutyNs := by
  rw [toDeviceUnit_eq hc, deviceValue_eq hc]
  split
  case isTrue hbig => exact iff_of_true rfl hbig
  case isFalse hsmall => exact iff_of_false nofun hsmall

/-- R118: an accepted byte is the full-width value, so nothing was clamped or truncated. -/
theorem toDeviceUnit_eq_some_iff {cfg : Config} (hc : cfg.IsPwmctl) (dutyNs : Nat) (value : Byte) :
    toDeviceUnit cfg dutyNs = some value ↔ deviceValue cfg dutyNs = value.toNat := by
  have hvalue : value.toNat < 256 := value.isLt
  rw [toDeviceUnit_eq hc, deviceValue_eq hc]
  split
  case isTrue hbig => exact iff_of_false nofun (by omega)
  case isFalse hsmall =>
    rw [Option.some.injEq, ← BitVec.toNat_inj, BitVec.toNat_ofNat, Nat.mod_eq_of_lt (by omega)]

/-- R111: `lo(v)` is the least input whose unrestricted value reaches `v`. -/
theorem le_deviceValue_iff {cfg : Config} (hc : cfg.IsPwmctl) (v dutyNs : Nat) :
    v ≤ deviceValue cfg dutyNs ↔ smallestInput v ≤ dutyNs := by
  rw [deviceValue_eq hc, smallestInput]
  omega

theorem deviceValue_mono {cfg : Config} (hc : cfg.IsPwmctl) {m n : Nat} (h : m ≤ n) :
    deviceValue cfg m ≤ deviceValue cfg n := by
  have hreached := (le_deviceValue_iff hc (deviceValue cfg m) m).mp le_rfl
  exact (le_deviceValue_iff hc _ n).mpr (hreached.trans h)

/-- R115: the division by the multiplier is exact, and one device unit is 12,800 ns. -/
theorem fromDeviceUnit_eq {cfg : Config} (hc : cfg.IsPwmctl) (value : Byte) :
    fromDeviceUnit cfg value = 12800 * value.toNat := by
  obtain ⟨-, -, -, -, hdenom, hscale, hshift, -⟩ := isPwmctl_constants hc
  rw [fromDeviceUnit, hdenom, hscale, hshift, Nat.shiftLeft_eq]
  omega

/-- R116: the result at the largest byte. -/
theorem fromDeviceUnit_le {cfg : Config} (hc : cfg.IsPwmctl) (value : Byte) :
    fromDeviceUnit cfg value ≤ 3264000 := by
  have hvalue : value.toNat < 256 := value.isLt
  rw [fromDeviceUnit_eq hc]
  omega

/-- Settles O7: a number is `v` just when it reaches `v` and not `v + 1`. -/
theorem forwardThresholds : Obligations.ForwardThresholds := by
  intro cfg dutyNs value hc
  rw [toDeviceUnit_eq_some_iff hc, ← not_le, ← le_deviceValue_iff hc, ← le_deviceValue_iff hc]
  omega

/-- Settles O8: all three clauses speak of the unrestricted value, which is monotone. -/
theorem forwardMonotone : Obligations.ForwardMonotone := by
  intro cfg m n hc hmn
  have hmono := deviceValue_mono hc hmn.le
  refine ⟨fun v w hv hw => ?_, hmono, fun hm => ?_⟩
  · rw [toDeviceUnit_eq_some_iff hc] at hv hw
    exact hv ▸ hw ▸ hmono
  · rw [toDeviceUnit_eq_none_iff hc] at hm ⊢
    exact hm.trans hmono

/-- Settles O11: `x` has `x / 125` steps and the two truncations lose at most 511 fifths of a step and 124 ns;
a loss of 12,899 needs both, and the first number of steps that is 511 fifths above a unit is 307. -/
theorem roundTripFromNanoseconds : Obligations.RoundTripFromNanoseconds := by
  intro cfg x v hc hx
  rw [toDeviceUnit_eq_some_iff hc, deviceValue_eq hc] at hx
  rw [fromDeviceUnit_eq hc, ← hx]
  refine ⟨by omega, by omega, fun hworst => ?_, by omega⟩
  have hsteps : 5 * (x / 125) = 512 * (10 * (x / 125) / 1024) + 511 := by omega
  omega

/-- R121: `v` units are 102.4 `v` steps of 125 ns, and the truncated fraction of a step is
`(2 * v % 5) / 5`. -/
theorem ten_mul_steps_of_units (v : Nat) :
    10 * (12800 * v / 125) + 2 * (2 * v % 5) = 1024 * v := by
  omega

/-- Settles O12: the fraction of a step that is truncated costs a whole unit, and there is none just when 5
divides `v`. -/
theorem roundTripFromDeviceUnit : Obligations.RoundTripFromDeviceUnit := by
  intro cfg v hc
  have hv : v.toNat < 256 := v.isLt
  have hsteps := ten_mul_steps_of_units v.toNat
  rw [toDeviceUnit_eq_some_iff hc, deviceValue_eq hc, fromDeviceUnit_eq hc]
  split
  case isTrue hmultiple => omega
  case isFalse hother =>
    have hfraction : 0 < 2 * v.toNat % 5 := by omega
    rw [BitVec.toNat_ofNat, Nat.mod_eq_of_lt (by omega)]
    omega

/-- Settles O5: the port shows the conversion's two outcomes. -/
theorem forwardConversionFormula : Obligations.ForwardConversionFormula := by
  intro cfg hc
  refine ⟨toDeviceUnit_eq hc, toDeviceUnit_eq hc 1250, toDeviceUnit_eq hc 32000, fun port => ?_⟩
  rw [forwardPort, toDeviceUnit_eq hc]
  by_cases h : 10 * (port.toNat / 125) / 1024 > 255
  · rw [if_pos h, if_pos h]
  · rw [if_neg h, if_neg h]

/-- Settles O6: 3,276,875 is `lo(256)`. -/
theorem forwardRejectsAndNeverClamps : Obligations.ForwardRejectsAndNeverClamps := by
  intro cfg dutyNs hc
  refine ⟨(toDeviceUnit_eq_none_iff hc dutyNs).trans (le_deviceValue_iff hc 256 dutyNs),
    fun value hvalue => ?_⟩
  rw [toDeviceUnit_eq_some_iff hc, deviceValue_eq hc] at hvalue
  exact hvalue.symm

/-- Settles O9: the formula is the exact multiple, and 22 bits hold the largest one. -/
theorem reverseConversionFormula : Obligations.ReverseConversionFormula := by
  intro cfg hc
  refine ⟨fun value => ?_, fromDeviceUnit_eq hc 0, fromDeviceUnit_eq hc 2, fromDeviceUnit_eq hc 255,
    fun hwidth raw => ?_⟩
  · rw [fromDeviceUnit_eq hc]
    omega
  · have hfits : fromDeviceUnit cfg raw < 2 ^ cfg.dutyWidth := calc
      fromDeviceUnit cfg raw ≤ 3264000 := fromDeviceUnit_le hc raw
      _ < 2 ^ 22 := by norm_num
      _ ≤ 2 ^ cfg.dutyWidth := Nat.pow_le_pow_right two_pos hwidth
    rw [reversePort, BitVec.toNat_ofNat, Nat.mod_eq_of_lt hfits]

/-- Settles O10, by the formula at the fixed constants and its value at the largest byte. -/
theorem reverseIsExactMultiple : Obligations.ReverseIsExactMultiple :=
  fun _ value hc => ⟨fromDeviceUnit_eq hc value, fromDeviceUnit_le hc value⟩

end Sys2Proof.Machine
end

section
/-! PROOFS. spec/41_unit_converter.md R122 and spec/42_channel_ops.md R131: result fields come from an
answered read, and only CAPTURE reads. -/

namespace Sys2Proof.Machine

/-- R133: the base address is added to the channel. -/
theorem eq_of_channelAddress {c : Config} {chan addr : Nat} (hc : c.IsPwmctl)
    (h : channelAddress c chan = some addr) : addr = 0x01 + chan := by
  obtain ⟨-, -, -, hbase, -⟩ := isPwmctl_constants hc
  simp only [channelAddress, hbase, Option.ite_none_right_eq_some, Option.some.injEq] at h
  exact h.2.symm

/-- A write's answer has no result fields (R75, R130). -/
theorem writeOutcome_ne_captured (a : WriteAnswer) (dutyCycleNs periodNs : Nat) :
    writeOutcome a ≠ .captured dutyCycleNs periodNs := by
  cases a <;> exact nofun

theorem finish_writeOutcome_rsp_ne_captured {s : State} (hrsp : s.rsp = none)
    (answer : Option WriteAnswer) (dutyCycleNs periodNs : Nat) :
    (finish (answer.map writeOutcome) s).rsp ≠ some (.captured dutyCycleNs periodNs) := by
  cases answer with
  | none => simp [hrsp]
  | some a => simp [writeOutcome_ne_captured]

/-- A rejection has no result fields, and the one request of a command other than CAPTURE is a write. -/
theorem eq_capture_of_captured {i : Instr} {s t : State} {dutyCycleNs periodNs : Nat}
    (hrsp : s.rsp = none) (h : exec i s = .next t)
    (ht : t.rsp = some (.captured dutyCycleNs periodNs)) : ∃ chan timeout, i = .capture chan timeout := by
  cases i with
  | capture chan timeout => exact ⟨chan, timeout, rfl⟩
  | configure chan dutyNs periodNs =>
    rcases execConfigure_cases h with ⟨-, rfl⟩ | ⟨addr, value, -, -, ⟨-, rfl⟩ | ⟨-, rfl⟩⟩
    · simp at ht
    · simp at ht
    · exact absurd ht (finish_writeOutcome_rsp_ne_captured (by simpa) _ _ _)
  | enable =>
    rcases execEnable_cases h with ⟨-, rfl⟩ | ⟨-, rfl⟩
    · simp at ht
    · exact absurd ht (finish_writeOutcome_rsp_ne_captured (by simpa) _ _ _)
  | disable =>
    rcases execDisable_cases h with ⟨-, rfl⟩ | ⟨-, rfl⟩
    · simp at ht
    · exact absurd ht (finish_writeOutcome_rsp_ne_captured (by simpa) _ _ _)
  | teardown =>
    rcases execTeardown_cases h with ⟨-, rfl⟩ | ⟨-, ⟨-, rfl⟩ | ⟨a, -, rfl⟩⟩
    · simp at ht
    · simp [hrsp] at ht
    · simp [writeOutcome_ne_captured] at ht
  | setPolarity => obtain rfl := Host.Outcome.next.inj h; simp at ht
  | reserved6 => obtain rfl := Host.Outcome.next.inj h; simp at ht
  | reserved7 => obtain rfl := Host.Outcome.next.inj h; simp at ht

/-- R131: a CAPTURE with result fields read one byte, and they are its conversion and the fixed period. -/
theorem execCapture_of_captured {chan timeout : Nat} {s t : State} {dutyCycleNs periodNs : Nat}
    (hrsp : s.rsp = none) (h : exec (.capture chan timeout) s = .next t)
    (ht : t.rsp = some (.captured dutyCycleNs periodNs)) :
    ∃ addr raw, channelAddress s.cfg chan = some addr ∧
      dutyCycleNs = fromDeviceUnit s.cfg raw ∧ periodNs = s.cfg.periodNs ∧
      t.history = s.history ++ [.read addr timeout (some (.ok raw))] := by
  rcases execCapture_cases h with ⟨-, rfl⟩ | ⟨addr, ha, ⟨-, rfl⟩ | ⟨-, rfl⟩⟩
  · simp at ht
  · simp at ht
  · rcases hread : readResult s with _ | raw | cause
    · simp [hread, hrsp] at ht
    · simp only [hread, Option.map_some, finish_some, respond_rsp, captureOutcome, Option.some.injEq,
        Response.captured.injEq] at ht
      obtain ⟨rfl, rfl⟩ := ht
      exact ⟨addr, raw, ha, rfl, rfl, by simp [hread]⟩
    · simp [hread, captureOutcome] at ht

/-- Settles O32: only CAPTURE ends with result fields, and its constants are the fixed ones. -/
theorem capturedPeriodIsFixed : Obligations.CapturedPeriodIsFixed := by
  intro i s t dutyCycleNs periodNs hc hrsp h ht
  obtain ⟨chan, timeout, rfl⟩ := eq_capture_of_captured hrsp h ht
  obtain ⟨addr, raw, haddr, hduty, hperiod, hhistory⟩ := execCapture_of_captured hrsp h ht
  obtain ⟨-, -, -, -, -, -, -, -, hfixed, -⟩ := isPwmctl_constants hc
  exact ⟨hperiod.trans hfixed, chan, timeout, raw, rfl, hduty.trans (fromDeviceUnit_eq hc raw),
    eq_of_channelAddress hc haddr ▸ hhistory⟩

end Sys2Proof.Machine
end

section
/-! PROOFS. What holds of every command's run (spec/42_channel_ops.md R135, R138; spec/10_state.md R20, R21,
R27): its frame, and its one permitted transaction or none. -/

namespace Sys2Proof.Machine

open Sys2Proof.Safety

/-- R135: the commands that move the mode are the mode commands. -/
theorem ModeMoves.eq_of_not_modeCommand {i : Instr} {old new : Mode} (h : ModeMoves i old new)
    (hi : isModeCommand i = false) : new = old := by
  rcases h with hsame | ⟨rfl, -⟩ | ⟨rfl | rfl, -⟩
  · exact hsame
  all_goals exact absurd hi (by decide)

/-- R21: only TEARDOWN moves the lifecycle. -/
theorem LifeMoves.eq_of_ne_teardown {i : Instr} {old new : Life} (h : LifeMoves i old new)
    (hi : i ≠ .teardown) : new = old := by
  rcases h with hsame | ⟨hteardown, -⟩
  · exact hsame
  · exact absurd hteardown hi

/-- Settles O28, by what no command touches and where a command may take mode, lifecycle and history. -/
theorem commandFrame : Obligations.CommandFrame := by
  intro i s t h
  obtain ⟨hcfg, hbusy, hhost, hresponses⟩ := exec_frame h
  exact ⟨hcfg, hbusy, hhost, hresponses, (exec_modeMoves h).eq_of_not_modeCommand,
    (exec_lifeMoves h).eq_of_ne_teardown, exec_history_prefix h⟩

/-- Settles O29: a rejection uses nothing up, and the one request was checked against the access table. -/
theorem atMostOnePermittedTransaction : Obligations.AtMostOnePermittedTransaction := by
  intro i s t h
  cases exec_ran h with
  | rejected => exact .inl ⟨rfl, rfl, rfl⟩
  | requested e _ _ _ hissued => exact .inr ⟨e, by simp, hissued.permitted, by simp, by simp⟩

end Sys2Proof.Machine
end

section
/-! PROOFS. spec/42_channel_ops.md R130 to R137: the channel's address, and CONFIGURE, CAPTURE and
SET_POLARITY, with one equation for each way their checks can go. -/

namespace Sys2Proof.Machine

/-- R133: a channel below `MAX_CHANNELS` has an address. -/
theorem channelAddress_of_lt {c : Config} {chan : Nat} (h : chan < c.maxChannels) :
    channelAddress c chan = some (c.baseChannelReg + chan) :=
  if_pos h

/-- R133: any other channel has none, whatever the sum would be. -/
theorem channelAddress_of_le {c : Config} {chan : Nat} (h : c.maxChannels ≤ chan) :
    channelAddress c chan = none :=
  if_neg (Nat.not_lt.mpr h)

/-- R133 with the constants of R7. -/
theorem channelAddress_eq {c : Config} (hc : c.IsPwmctl) (chan : Nat) :
    channelAddress c chan = if chan < 6 then some (0x01 + chan) else none := by
  obtain ⟨-, hchannels, -, hbase, -⟩ := isPwmctl_constants hc
  rw [channelAddress, hchannels, hbase]

/-- Settles O13: the port shows the address or that there is none. -/
theorem channelCheckedBeforeAddress : Obligations.ChannelCheckedBeforeAddress := by
  intro cfg hc
  refine ⟨channelAddress_eq hc, fun chan => ?_, fun _ => rfl⟩
  rw [demuxPort, channelAddress_eq hc]
  by_cases h : chan.toNat < 6
  · rw [if_pos h, if_pos h]
  · rw [if_neg h, if_neg h]

/-- R46: a channel's register may be read and written. -/
theorem channel_permitted {c : Config} {chan : Nat} (hc : c.IsPwmctl) (h : chan < 6) :
    canRead c (c.baseChannelReg + chan) = true ∧ canWrite c (c.baseChannelReg + chan) = true := by
  obtain ⟨-, -, -, hbase, -⟩ := isPwmctl_constants hc
  rw [canRead_iff hc, canWrite_iff hc, hbase]
  omega

/-! ### CONFIGURE -/

/-- R130 steps 1 and 2: no channel, or no device unit. -/
theorem exec_configure_of_outOfRange {chan dutyNs : Nat} {s : State}
    (h : channelAddress s.cfg chan = none ∨ toDeviceUnit s.cfg dutyNs = none) (periodNs : Nat) :
    exec (.configure chan dutyNs periodNs) s = .next (raise .outOfRange s) := by
  rcases h with h | h
  · simp [exec, execConfigure, h]
  · cases ha : channelAddress s.cfg chan <;> simp [exec, execConfigure, h, ha]

/-- R130 step 4, the check fails. -/
theorem exec_configure_of_denied {chan dutyNs addr : Nat} {value : Byte} {s : State}
    (ha : channelAddress s.cfg chan = some addr) (hv : toDeviceUnit s.cfg dutyNs = some value)
    (hw : canWrite s.cfg addr = false) (periodNs : Nat) :
    exec (.configure chan dutyNs periodNs) s = .next (raise .permissionDenied s) := by
  simp [exec, execConfigure, ha, hv, hw]

/-- R130 step 5, after every check. -/
theorem exec_configure_of_permitted {chan dutyNs addr : Nat} {value : Byte} {s : State}
    (ha : channelAddress s.cfg chan = some addr) (hv : toDeviceUnit s.cfg dutyNs = some value)
    (hw : canWrite s.cfg addr = true) (periodNs : Nat) :
    exec (.configure chan dutyNs periodNs) s =
      .next (finish ((writeResult s).map writeOutcome) (memWrite addr value s)) := by
  simp [exec, execConfigure, ha, hv, hw]

/-- R47: the outcome of an answered write, by the answer's `err`. -/
theorem writeOutcome_writeAnswerOf (x : XRsp) :
    writeOutcome (writeAnswerOf x) =
      if x.err then .error (.transportFailure x.terr) else .ok :=
  apply_ite writeOutcome ..

/-- A write the transport answers: one answer used up, one event and the outcome, and nothing else. -/
theorem finish_memWrite_of_answered {s : State} {x : XRsp} (hx : nextAnswer s = some x) (addr : Nat)
    (value : Byte) :
    finish ((writeResult s).map writeOutcome) (memWrite addr value s) =
      { consumeAnswer s with
        history := s.history ++ [.write addr value (some (if x.err then .err x.terr else .ok))],
        rsp := some (if x.err then .error (.transportFailure x.terr) else .ok) } := by
  rw [memWrite_eq, writeResult_some hx, Option.map_some, writeOutcome_writeAnswerOf]
  rfl

/-- Settles O21, clause by clause along R130's checks. -/
theorem configureMeaning : Obligations.ConfigureMeaning := by
  intro s chan dutyNs periodNs
  refine ⟨fun h => ?_, fun value hchan hv => ⟨fun hw => ?_, fun hw x hx => ?_⟩, fun hc => ?_⟩
  · exact exec_configure_of_outOfRange (h.imp_left channelAddress_of_le) periodNs
  · exact exec_configure_of_denied (channelAddress_of_lt hchan) hv hw periodNs
  · rw [exec_configure_of_permitted (channelAddress_of_lt hchan) hv hw,
      finish_memWrite_of_answered hx]
  · obtain ⟨-, hchannels, -, hbase, -⟩ := isPwmctl_constants hc
    obtain ⟨hreject, -⟩ := forwardRejectsAndNeverClamps s.cfg dutyNs hc
    exact ⟨hchannels, hbase, hreject, fun h => (channel_permitted hc h).2⟩

/-- Settles O34: the meaning does not look at it. -/
theorem configurePeriodIgnored : Obligations.ConfigurePeriodIgnored :=
  fun _ _ _ _ _ => rfl

/-! ### CAPTURE -/

/-- R131 step 1: no channel. -/
theorem exec_capture_of_outOfRange {chan : Nat} {s : State}
    (h : channelAddress s.cfg chan = none) (timeout : Nat) :
    exec (.capture chan timeout) s = .next (raise .outOfRange s) := by
  simp [exec, execCapture, h]

/-- R131 step 3, the check fails. -/
theorem exec_capture_of_denied {chan addr : Nat} {s : State}
    (ha : channelAddress s.cfg chan = some addr) (hr : canRead s.cfg addr = false) (timeout : Nat) :
    exec (.capture chan timeout) s = .next (raise .permissionDenied s) := by
  simp [exec, execCapture, ha, hr]

/-- R131 step 4, after every check. -/
theorem exec_capture_of_permitted {chan addr : Nat} {s : State}
    (ha : channelAddress s.cfg chan = some addr) (hr : canRead s.cfg addr = true) (timeout : Nat) :
    exec (.capture chan timeout) s =
      .next (finish ((readResult s).map (captureOutcome s.cfg)) (memRead addr timeout s)) := by
  simp [exec, execCapture, ha, hr]

/-- R47, R131: the outcome of an answered read, by the answer's `err`. -/
theorem captureOutcome_readAnswerOf (c : Config) (x : XRsp) :
    captureOutcome c (readAnswerOf x) =
      if x.err then .error (.transportFailure x.terr)
      else .captured (fromDeviceUnit c x.rdata) c.periodNs :=
  apply_ite (captureOutcome c) ..

/-- A read the transport answers: one answer used up, one event and the outcome, and nothing else. -/
theorem finish_memRead_of_answered {s : State} {x : XRsp} (hx : nextAnswer s = some x)
    (addr timeout : Nat) :
    finish ((readResult s).map (captureOutcome s.cfg)) (memRead addr timeout s) =
      { consumeAnswer s with
        history := s.history ++
          [.read addr timeout (some (if x.err then .err x.terr else .ok x.rdata))],
        rsp := some (if x.err then .error (.transportFailure x.terr)
          else .captured (fromDeviceUnit s.cfg x.rdata) s.cfg.periodNs) } := by
  rw [memRead_eq, readResult_some hx, Option.map_some, captureOutcome_readAnswerOf]
  rfl

/-- Settles O22, clause by clause along R131's checks. -/
theorem captureMeaning : Obligations.CaptureMeaning := by
  intro s chan timeout
  refine ⟨fun hchan => ?_, fun hchan hr => ?_, fun hchan hr x hx => ?_, fun hc => ?_⟩
  · exact exec_capture_of_outOfRange (channelAddress_of_le hchan) timeout
  · exact exec_capture_of_denied (channelAddress_of_lt hchan) hr timeout
  · rw [exec_capture_of_permitted (channelAddress_of_lt hchan) hr, finish_memRead_of_answered hx]
  · obtain ⟨-, hchannels, -, hbase, -, -, -, -, hperiod, -⟩ := isPwmctl_constants hc
    exact ⟨hchannels, hbase, hperiod, fromDeviceUnit_eq hc, fun h => (channel_permitted hc h).1⟩

/-- R137: which way CAPTURE's checks go does not depend on the timeout. -/
theorem exec_capture_uniform (chan : Nat) (s : State) :
    (∃ kind, ∀ timeout, exec (.capture chan timeout) s = .next (raise kind s)) ∨
    (∃ addr, ∀ timeout, exec (.capture chan timeout) s =
      .next (finish ((readResult s).map (captureOutcome s.cfg)) (memRead addr timeout s))) := by
  rcases ha : channelAddress s.cfg chan with _ | addr
  · exact .inl ⟨_, exec_capture_of_outOfRange ha⟩
  · cases hr : canRead s.cfg addr with
    | false => exact .inl ⟨_, exec_capture_of_denied ha hr⟩
    | true => exact .inr ⟨addr, exec_capture_of_permitted ha hr⟩

/-- R50, R137: but for the history a read leaves the same state whatever its timeout. -/
theorem finish_memRead_forget_history (outcome : Option Response) (addr timeout timeout' : Nat)
    (s : State) :
    { finish outcome (memRead addr timeout s) with history := [] } =
      { finish outcome (memRead addr timeout' s) with history := [] } := by
  cases outcome <;> rfl

/-- Settles O35: the checks go the same way for both timeouts, and a read records its own. -/
theorem captureTimeoutOnlyPassedOn : Obligations.CaptureTimeoutOnlyPassedOn := by
  intro chan timeout timeout' s t t' h h'
  rcases exec_capture_uniform chan s with ⟨kind, hrun⟩ | ⟨addr, hrun⟩
  · obtain rfl := Host.Outcome.next.inj ((hrun timeout).symm.trans h)
    obtain rfl := Host.Outcome.next.inj ((hrun timeout').symm.trans h')
    exact ⟨rfl, fun _ _ _ hgained => by simp at hgained⟩
  · obtain rfl := Host.Outcome.next.inj ((hrun timeout).symm.trans h)
    obtain rfl := Host.Outcome.next.inj ((hrun timeout').symm.trans h')
    refine ⟨finish_memRead_forget_history .., fun _ _ _ hgained => ?_⟩
    simp only [finish_history, memRead_history, List.append_cancel_left_eq, List.cons.injEq,
      Event.read.injEq, and_true] at hgained ⊢
    obtain ⟨haddr, htimeout, hanswer⟩ := hgained
    exact ⟨htimeout.symm, haddr, trivial, hanswer⟩

/-! ### SET_POLARITY -/

/-- R72: selector 2 is SET_POLARITY, whatever the other fields hold. -/
theorem decode_of_selector_two {c : Config} {w : CmdWord c} (h : w.extractLsb' c.opLo 3 = 2) :
    decode c w = .setPolarity := by
  rw [decode_eq_commandOf, opField, cmdField, h]
  rfl

/-- R153: a block that takes a presented word off the host's list is LIVE. -/
theorem life_of_accepted {s t : State} {word : Nat} {rest : List HostMove}
    (hhost : s.host = .present word :: rest) (hstep : step s = .next t) (ht : t.host = rest) :
    s.life = .live := by
  have hready := (acceptedExactlyWhenReady s word rest hhost).mpr ⟨t, hstep, ht⟩
  exact ((cmdReady_iff s).mp hready).2

/-- Settles O23, by SET_POLARITY's meaning, its selector and the acceptance of any word. -/
theorem setPolarityAlwaysUnsupported : Obligations.SetPolarityAlwaysUnsupported :=
  ⟨fun _ => rfl, fun _ _ => decode_of_selector_two, fun _ _ _ _ _ => life_of_accepted⟩

end Sys2Proof.Machine
end

section
/-! PROOFS. spec/43_mode_ops.md R150 to R152, R155 and R156: ENABLE, DISABLE and TEARDOWN, by the permission
check and the one write to the mode register that they share. -/

namespace Sys2Proof.Machine

/-- R155 with the constants of R7 and R43: the mode register may be written. -/
theorem modeReg_permitted {c : Config} (hc : c.IsPwmctl) :
    c.modeReg = 0x00 ∧ canWrite c c.modeReg = true := by
  obtain ⟨-, -, hmodeReg, -⟩ := isPwmctl_constants hc
  refine ⟨hmodeReg, ?_⟩
  rw [hmodeReg, canWrite_iff hc]
  exact .inl ⟨le_rfl, by decide⟩

/-- R156: the shadow after an answered mode write, by the answer's `err`. -/
theorem modeAfterWrite_answered (target : Mode) (x : XRsp) (s : State) :
    modeAfterWrite target (some (writeAnswerOf x)) s =
      if x.err = true ∧ s.cfg.modeUpdateOnFail = false then s.mode else target := by
  cases hx : x.err with
  | false => simp [modeAfterWrite, writeAnswerOf, hx]
  | true => cases hfail : s.cfg.modeUpdateOnFail <;> simp [modeAfterWrite, writeAnswerOf, hx, hfail]

/-- R155: where the register may not be written the two shared steps are the rejection alone. -/
theorem modeWrite_of_denied (target : Mode) {s : State} (hw : canWrite s.cfg s.cfg.modeReg = false) :
    modeWrite target s = s ∧ modeWriteOutcome s = some (.error .permissionDenied) := by
  rcases modeWrite_cases target s with ⟨-, hwrite, hout⟩ | ⟨hw', -⟩
  · exact ⟨hwrite, hout⟩
  · exact nomatch hw.symm.trans hw'

/-- R150, R151: an answered mode write is one answer used up, one event and the shadow's update, and its
outcome is the answer's. -/
theorem modeWrite_of_answered (target : Mode) {s : State} {x : XRsp}
    (hw : canWrite s.cfg s.cfg.modeReg = true) (hx : nextAnswer s = some x) :
    modeWrite target s =
      { consumeAnswer s with
        history := s.history ++ [.write s.cfg.modeReg (modeByte s.cfg target)
          (some (if x.err then .err x.terr else .ok))],
        mode := if x.err = true ∧ s.cfg.modeUpdateOnFail = false then s.mode else target } ∧
    modeWriteOutcome s = some (if x.err then .error (.transportFailure x.terr) else .ok) := by
  rcases modeWrite_cases target s with ⟨hw', -⟩ | ⟨-, hwrite, hout⟩
  · exact nomatch hw'.symm.trans hw
  · rw [hwrite, hout, writeResult_some hx, modeAfterWrite_answered, memWrite_eq, writeResult_some hx,
      Option.map_some, writeOutcome_writeAnswerOf]
    exact ⟨rfl, rfl⟩

/-- R155: ENABLE's and DISABLE's run where the register may not be written. -/
theorem finish_modeWrite_of_denied (target : Mode) {s : State}
    (hw : canWrite s.cfg s.cfg.modeReg = false) :
    finish (modeWriteOutcome s) (modeWrite target s) = raise .permissionDenied s := by
  obtain ⟨hwrite, hout⟩ := modeWrite_of_denied target hw
  rw [hwrite, hout]
  rfl

/-- R150, R151: ENABLE's and DISABLE's run when the transport answers. -/
theorem finish_modeWrite_of_answered (target : Mode) {s : State} {x : XRsp}
    (hw : canWrite s.cfg s.cfg.modeReg = true) (hx : nextAnswer s = some x) :
    finish (modeWriteOutcome s) (modeWrite target s) =
      { consumeAnswer s with
        history := s.history ++ [.write s.cfg.modeReg (modeByte s.cfg target)
          (some (if x.err then .err x.terr else .ok))],
        mode := if x.err = true ∧ s.cfg.modeUpdateOnFail = false then s.mode else target,
        rsp := some (if x.err then .error (.transportFailure x.terr) else .ok) } := by
  obtain ⟨hwrite, hout⟩ := modeWrite_of_answered target hw hx
  rw [hwrite, hout]
  rfl

/-- Settles O25: the two shared steps with target GENERATE. -/
theorem enableMeaning : Obligations.EnableMeaning :=
  fun _ => ⟨fun hw => congrArg _ (finish_modeWrite_of_denied .generate hw),
    fun hw _ hx => congrArg _ (finish_modeWrite_of_answered .generate hw hx), modeReg_permitted⟩

/-- Settles O26: the two shared steps with target MEASURE. -/
theorem disableMeaning : Obligations.DisableMeaning :=
  fun _ => ⟨fun hw => congrArg _ (finish_modeWrite_of_denied .measure hw),
    fun hw _ hx => congrArg _ (finish_modeWrite_of_answered .measure hw hx), modeReg_permitted⟩

/-- Settles O27, by the permission check. -/
theorem teardownMeaning : Obligations.TeardownMeaning := by
  intro s
  refine ⟨fun hw => ?_, fun hw x hx => ?_⟩
  · obtain ⟨hwrite, hout⟩ := modeWrite_of_denied .measure hw
    rw [exec, execTeardown, hwrite, hout]
    rfl
  · obtain ⟨hwrite, hout⟩ := modeWrite_of_answered .measure hw hx
    rw [exec, execTeardown, hwrite, hout]
    rfl

end Sys2Proof.Machine
end

section
/-! PROOFS. spec/43_mode_ops.md R156 and spec/10_state.md R31: the mode shadow and the last successful write
to the mode register. -/

namespace Sys2Proof.Machine

open Sys2Proof.Safety

/-- R28, R82: the byte that selects a mode is read back as that mode. -/
theorem modeOfByte_modeByte {c : Config} (hne : c.modeValMeasure ≠ c.modeValGenerate) (m : Mode) :
    modeOfByte c (modeByte c m) = m := by
  cases m with
  | measure => exact if_neg hne
  | generate => exact if_pos rfl

/-- A write elsewhere, whatever its answer, is no write to `addr`. -/
theorem lastWritten_append_of_ne {addr a : Nat} (hne : a ≠ addr) (h : List Event) (value : Byte)
    (answer : Option WriteAnswer) :
    lastWritten addr (h ++ [.write a value answer]) = lastWritten addr h := by
  rw [lastWritten_append]
  rcases answer with _ | _ | cause
  · rfl
  · exact if_neg hne
  · rfl

/-- R46: a command that is no mode command does not write the mode register. -/
theorem Issues.lastWritten_modeReg {c : Config} {i : Instr} {e : Event} (hc : c.IsPwmctl)
    (hi : isModeCommand i = false) (he : Issues c i e) (h : List Event) :
    lastWritten c.modeReg (h ++ [e]) = lastWritten c.modeReg h := by
  cases he with
  | configure hchan _ =>
    obtain ⟨hlow, -⟩ := channelAddress_bounds hc hchan
    obtain ⟨hmodeReg, -⟩ := modeReg_permitted hc
    exact lastWritten_append_of_ne (by omega) ..
  | capture _ _ => exact lastWritten_append ..
  | enable _ => exact nomatch hi
  | disable _ => exact nomatch hi
  | teardown _ => exact nomatch hi

/-- With neither the shadow nor the last successful mode write changed they still agree. -/
theorem shadowAgrees_of_unchanged {s t : State} (hs : ShadowAgrees s) (hcfg : t.cfg = s.cfg)
    (hmode : t.mode = s.mode)
    (hlast : lastWritten s.cfg.modeReg t.history = lastWritten s.cfg.modeReg s.history) :
    ShadowAgrees t := by
  unfold ShadowAgrees
  rw [hcfg, hmode, hlast]
  exact hs

/-- With the target's byte written last and the shadow at the target they agree. -/
theorem shadowAgrees_of_written {t : State} {target : Mode}
    (hne : t.cfg.modeValMeasure ≠ t.cfg.modeValGenerate) (hmode : t.mode = target)
    (hlast : lastWritten t.cfg.modeReg t.history = some (modeByte t.cfg target)) :
    ShadowAgrees t := by
  unfold ShadowAgrees
  rw [hmode, hlast]
  exact (modeOfByte_modeByte hne target).symm

/-- R156: by the answer to the write: none and a failure change neither side, a success sets both. -/
theorem shadowAgrees_modeWrite (target : Mode) {s : State} (hc : s.cfg.IsPwmctl)
    (hfail : s.cfg.modeUpdateOnFail = false) (hs : ShadowAgrees s) :
    ShadowAgrees (modeWrite target s) := by
  obtain ⟨-, hne⟩ := hc
  rcases modeWrite_cases target s with ⟨-, hwrite, -⟩ | ⟨-, hwrite, -⟩
  · rwa [hwrite]
  · rw [hwrite]
    rcases hanswer : writeResult s with _ | _ | cause
    · refine shadowAgrees_of_unchanged hs (by simp) rfl ?_
      simp [hanswer, lastWritten_append]
    · refine shadowAgrees_of_written (target := target) (by simpa using hne) rfl ?_
      simp [hanswer, lastWritten_append]
    · refine shadowAgrees_of_unchanged hs (by simp) (by simp [modeAfterWrite, hfail]) ?_
      simp [hanswer, lastWritten_append]

/-- A mode command ends with the shadow and the history that its mode write leaves, whatever comes of it. -/
theorem exec_modeCommand_shadow {i : Instr} {s t : State} (hi : isModeCommand i = true)
    (h : exec i s = .next t) :
    ∃ target, t.cfg = (modeWrite target s).cfg ∧ t.mode = (modeWrite target s).mode ∧
      t.history = (modeWrite target s).history := by
  cases i with
  | enable =>
    obtain rfl := Host.Outcome.next.inj h
    exact ⟨.generate, finish_cfg .., finish_mode .., finish_history ..⟩
  | disable =>
    obtain rfl := Host.Outcome.next.inj h
    exact ⟨.measure, finish_cfg .., finish_mode .., finish_history ..⟩
  | teardown =>
    obtain rfl := Host.Outcome.next.inj h
    exact ⟨.measure, by cases modeWriteOutcome s <;> exact ⟨rfl, rfl, rfl⟩⟩
  | configure => exact nomatch hi
  | capture => exact nomatch hi
  | setPolarity => exact nomatch hi
  | reserved6 => exact nomatch hi
  | reserved7 => exact nomatch hi

/-- A mode command keeps the agreement as its mode write does; any other command touches neither the shadow
nor the mode register. -/
theorem shadowAgrees_of_exec {i : Instr} {s t : State} (hc : s.cfg.IsPwmctl)
    (hfail : s.cfg.modeUpdateOnFail = false) (hs : ShadowAgrees s) (h : exec i s = .next t) :
    ShadowAgrees t := by
  cases hi : isModeCommand i with
  | false =>
    obtain ⟨hcfg, -⟩ := exec_frame h
    have hmode := (exec_modeMoves h).eq_of_not_modeCommand hi
    refine shadowAgrees_of_unchanged hs hcfg hmode ?_
    rcases exec_history h with ⟨hhist, -⟩ | ⟨e, hissued, hhist, -⟩
    · rw [hhist]
    · rw [hhist, hissued.lastWritten_modeReg hc hi]
  | true =>
    obtain ⟨target, hcfg, hmode, hhist⟩ := exec_modeCommand_shadow hi h
    have hwritten := shadowAgrees_modeWrite target hc hfail hs
    exact shadowAgrees_of_unchanged hwritten hcfg hmode (by rw [hhist])

/-- Settles O50: a delivery and a wait touch neither side, a reset empties the history and sets MEASURE, and
a command keeps the agreement. -/
theorem stepKeepsShadowAgreement : Obligations.StepKeepsShadowAgreement := by
  intro s t hc hfail hs h
  rcases step_cases h with ⟨r, -, -, rfl⟩ | ⟨rfl, -⟩ | ⟨rest, -, -, rfl⟩ | ⟨word, rest, -, -, -, hrun⟩
  · exact hs
  · exact hs
  · simp [ShadowAgrees]
  · exact shadowAgrees_of_exec (s := acceptCommand rest s) hc hfail hs hrun

end Sys2Proof.Machine
end

section
/-! PROOFS. spec/43_mode_ops.md R152 and R153: the destroyed block. -/

namespace Sys2Proof.Machine

open Sys2Proof.Safety

/-- R152: a command that destroys a LIVE block is a TEARDOWN whose write, its last transaction, was
answered. -/
theorem tornDownByModeReset_of_exec {i : Instr} {s t : State} (hc : s.cfg.IsPwmctl)
    (hlive : s.life = .live) (h : exec i s = .next t) : TornDownByModeReset t := by
  intro ht
  rcases exec_lifeMoves h with hkept | ⟨rfl, -⟩
  · exact nomatch (ht.symm.trans hkept).trans hlive
  · rcases execTeardown_cases h with ⟨hdenied, -⟩ | ⟨-, ⟨-, rfl⟩ | ⟨a, ha, rfl⟩⟩
    · exact nomatch hdenied.symm.trans (modeReg_permitted hc).2
    · simp [hlive] at ht
    · exact ⟨s.history, a, by simp [ha]⟩

/-- Settles O52: a delivery and a wait change neither the lifecycle nor the history, a reset makes the
block LIVE, and a command is accepted only by a LIVE one. -/
theorem stepKeepsTeardownModeReset : Obligations.StepKeepsTeardownModeReset := by
  intro s t hc hs h
  rcases step_cases h with ⟨r, -, -, rfl⟩ | ⟨rfl, -⟩ | ⟨rest, -, -, rfl⟩ |
    ⟨word, rest, -, hlive, -, hrun⟩
  · exact hs
  · exact hs
  · exact fun ht => nomatch ht
  · exact tornDownByModeReset_of_exec (s := acceptCommand rest s) hc hlive hrun

/-- R153: a destroyed block that is IDLE is stuck on a presented command. -/
theorem step_of_destroyed {s : State} {word : Nat} {rest : List HostMove} (hbusy : s.busy = .idle)
    (hlife : s.life = .destroyed) (hhost : s.host = .present word :: rest) :
    step s = .fault .stuckAfterTeardown := by
  simp only [step, handshake, hbusy, hlife, hhost]

/-- Settles O42: of the four ways a step can go a command's run needs a LIVE block, and a delivery and a
wait leave mode, lifecycle, history and the host's moves alone. -/
theorem destroyedBlockAcceptsNothing : Obligations.DestroyedBlockAcceptsNothing := by
  refine ⟨fun _ _ _ => step_of_destroyed, fun s t hlife h => ?_⟩
  rcases step_cases h with ⟨r, -, -, rfl⟩ | ⟨rfl, -⟩ | ⟨rest, hbusy, hhost, -⟩ | ⟨_, _, -, hlive, -⟩
  · exact .inr ⟨hlife, rfl, rfl, rfl⟩
  · exact .inr ⟨hlife, rfl, rfl, rfl⟩
  · exact .inl ⟨rest, hhost, hbusy⟩
  · exact nomatch hlife.symm.trans hlive

end Sys2Proof.Machine
end

section
/-! PROOFS. spec/43_mode_ops.md R157: ENABLE then DISABLE, each an acceptance and a delivery. -/

namespace Sys2Proof.Machine

/-- A block after one successful mode command and its delivery (R150, R151, R70): one answer used up, one
write of the target's byte to the mode register, the target in the shadow, and one OK response. -/
def afterModeCommand (target : Mode) (rest : List HostMove) (s : State) : State :=
  { consumeAnswer s with
    host := rest, mode := target, busy := .idle, rsp := none,
    history := s.history ++ [.write s.cfg.modeReg (modeByte s.cfg target) (some .ok)],
    responses := s.responses ++ [.ok] }

@[simp] theorem afterModeCommand_cfg (target : Mode) (rest : List HostMove) (s : State) :
    (afterModeCommand target rest s).cfg = s.cfg :=
  consumeAnswer_cfg s

@[simp] theorem afterModeCommand_life (target : Mode) (rest : List HostMove) (s : State) :
    (afterModeCommand target rest s).life = s.life :=
  consumeAnswer_life s

/-- What the transport says next depends on the listed answers and the draws alone. -/
theorem nextAnswer_afterModeCommand (target : Mode) (rest : List HostMove) (s : State) :
    nextAnswer (afterModeCommand target rest s) = nextAnswer (consumeAnswer s) := rfl

theorem consumeAnswer_acceptCommand (rest : List HostMove) (s : State) :
    consumeAnswer (acceptCommand rest s) = acceptCommand rest (consumeAnswer s) := by
  rcases consumeAnswer_cases s with ⟨a, answers, hs, -, h⟩ | ⟨hs, -, h⟩
  · rw [h]; simp [consumeAnswer, hs, acceptCommand]
  · rw [h]; simp [consumeAnswer, hs, acceptCommand]

/-- R150, R151: the run of an accepted mode command whose write succeeds, and the delivery after it. -/
theorem deliver_modeWrite_of_ok (target : Mode) (rest : List HostMove) {s : State} {x : XRsp}
    (hc : s.cfg.IsPwmctl) (hx : nextAnswer s = some x) (hok : x.err = false) :
    modeWriteOutcome (acceptCommand rest s) = some .ok ∧
    deliverResponse .ok (respond .ok (modeWrite target (acceptCommand rest s))) =
      afterModeCommand target rest s := by
  obtain ⟨-, hw⟩ := modeReg_permitted hc
  obtain ⟨hwrite, hout⟩ := modeWrite_of_answered target (s := acceptCommand rest s) hw hx
  rw [hwrite, hout, hok, consumeAnswer_acceptCommand]
  simp [deliverResponse, respond, acceptCommand, afterModeCommand]

/-- A run goes on from where its first step leads. -/
theorem run_succ_of_next {s t : State} (h : step s = .next t) (k : Nat) :
    Host.Core.run Sys2Proof.core (k + 1) s = Host.Core.run Sys2Proof.core k t := by
  have hcore : Sys2Proof.core.step s = .next t := h
  simp only [Host.Core.run, hcore]

/-- The first two steps of a ready block whose presented word is a mode command, with an `Ok` answer. -/
theorem run_modeCommand {i : Instr} {target : Mode} {s : State} {word : Nat} {rest : List HostMove}
    {x : XRsp} (hi : ∀ u, exec i u = .next (finish (modeWriteOutcome u) (modeWrite target u)))
    (hc : s.cfg.IsPwmctl) (hbusy : s.busy = .idle) (hlife : s.life = .live)
    (hhost : s.host = .present word :: rest) (hdecode : decode s.cfg (portWord s.cfg word) = i)
    (hx : nextAnswer s = some x) (hok : x.err = false) (k : Nat) :
    Host.Core.run Sys2Proof.core (k + 2) s =
      Host.Core.run Sys2Proof.core k (afterModeCommand target rest s) := by
  obtain ⟨hout, hdelivered⟩ := deliver_modeWrite_of_ok target rest hc hx hok
  have hrun : step s = .next (respond .ok (modeWrite target (acceptCommand rest s))) := by
    rw [step_of_ready hbusy hlife hhost, hdecode, hi, hout]
    rfl
  obtain ⟨-, htbusy, -⟩ := exec_frame ((step_of_ready hbusy hlife hhost).symm.trans hrun)
  rw [run_succ_of_next hrun, run_succ_of_next (step_of_pending htbusy rfl), hdelivered]

/-- Settles O54: two steps for each of the two commands, the second from where the first leads. -/
theorem enableThenDisable : Obligations.EnableThenDisable := by
  intro s w w' rest x x' hc hbusy hlife henable hdisable hhost hx hx' hok hok'
  have hfirst := run_modeCommand (target := .generate) (fun _ => rfl) hc hbusy hlife hhost henable hx hok 2
  have hsecond := run_modeCommand (i := .disable) (target := .measure)
    (s := afterModeCommand .generate (.present w' :: rest) s)
    (fun _ => rfl) (by rwa [afterModeCommand_cfg]) rfl (by rwa [afterModeCommand_life]) rfl
    (by rwa [afterModeCommand_cfg])
    ((nextAnswer_afterModeCommand ..).trans hx') hok' 0
  obtain ⟨hmodeReg, -⟩ := modeReg_permitted hc
  refine ⟨_, hfirst.trans hsecond, rfl, ?_, hc.2.symm, ?_⟩
  · simp [afterModeCommand, modeByte, hmodeReg]
  · simp [afterModeCommand]

end Sys2Proof.Machine
end

section
/-! PROOFS. spec/60_exceptions.md R173 and R174: what a command that ends with an error leaves behind, in one
inversion lemma with the fixed constants. -/

namespace Sys2Proof.Machine

open Sys2Proof.Safety

/-- The mode a mode command is to reach (R150 to R152). -/
def modeTarget : Instr → Option Mode
  | .enable          => some .generate
  | .disable         => some .measure
  | .teardown        => some .measure
  | .configure _ _ _ => none
  | .capture _ _     => none
  | .setPolarity     => none
  | .reserved6       => none
  | .reserved7       => none

/-- How a command can end with an error (R174): rejected with nothing changed but the response, or after one
failed transaction, after which a mode command's shadow is as R156 says. -/
inductive Erred (i : Instr) (s : State) : State → ErrorKind → Prop
  | rejected {kind : ErrorKind} (hkind : kind = .outOfRange ∨ kind = .unsupported) :
      Erred i s (raise kind s) kind
  | failed {t : State} {cause : Nat} (ev : Event) (hhistory : t.history = s.history ++ [ev])
      (hfailed : failedWith cause ev = true)
      (hmode : ∀ target, modeTarget i = some target →
        t.mode = if s.cfg.modeUpdateOnFail then target else s.mode)
      (hlife : i = .teardown → t.life = .destroyed) :
      Erred i s t (.transportFailure cause)

/-- A rejection reports the kind that was raised. -/
theorem Erred.of_raise {i : Instr} {s : State} {raised kind : ErrorKind}
    (hraised : raised = .outOfRange ∨ raised = .unsupported)
    (ht : (raise raised s).rsp = some (.error kind)) : Erred i s (raise raised s) kind := by
  obtain rfl : raised = kind := by simpa using ht
  exact .rejected hraised

/-- R47: a write's error is the transport's, and so its answer was. -/
theorem eq_err_of_finish_writeOutcome {answer : Option WriteAnswer} {u : State} {kind : ErrorKind}
    (hu : u.rsp = none) (ht : (finish (answer.map writeOutcome) u).rsp = some (.error kind)) :
    ∃ cause, kind = .transportFailure cause ∧ answer = some (.err cause) := by
  rcases answer with _ | _ | cause
  · exact nomatch hu.symm.trans ht
  · exact nomatch ht
  · cases ht
    exact ⟨cause, rfl, rfl⟩

/-- R47: a read's error is the transport's, and so its answer was. -/
theorem eq_err_of_finish_captureOutcome {c : Config} {answer : Option ReadAnswer} {u : State}
    {kind : ErrorKind} (hu : u.rsp = none)
    (ht : (finish (answer.map (captureOutcome c)) u).rsp = some (.error kind)) :
    ∃ cause, kind = .transportFailure cause ∧ answer = some (.err cause) := by
  rcases answer with _ | _ | cause
  · exact nomatch hu.symm.trans ht
  · exact nomatch ht
  · cases ht
    exact ⟨cause, rfl, rfl⟩

/-- An error after a command's one write: the write failed with that cause, and the shadow is what a failed
mode write leaves. -/
theorem Erred.of_write {i : Instr} {s u : State} {kind : ErrorKind} {addr : Nat} {value : Byte}
    {answer : Option WriteAnswer} (hu : u.rsp = none)
    (hhistory : u.history = s.history ++ [.write addr value answer])
    (hmode : ∀ target, modeTarget i = some target → u.mode = modeAfterWrite target answer s)
    (hlife : i = .teardown → u.life = .destroyed)
    (ht : (finish (answer.map writeOutcome) u).rsp = some (.error kind)) :
    Erred i s (finish (answer.map writeOutcome) u) kind := by
  obtain ⟨cause, rfl, rfl⟩ := eq_err_of_finish_writeOutcome hu ht
  exact .failed _ hhistory (by simp [failedWith]) hmode hlife

/-- R46: a channel's register, as the demultiplexer gives it, may be read and written. -/
theorem channelAddress_permitted {c : Config} {chan addr : Nat} (hc : c.IsPwmctl)
    (h : channelAddress c chan = some addr) : canRead c addr = true ∧ canWrite c addr = true := by
  have hbounds := channelAddress_bounds hc h
  rw [canRead_iff hc, canWrite_iff hc]
  omega

/-- R173, R174: every way a command can end with an error: with the fixed constants no permission check
fails. -/
theorem exec_erred {i : Instr} {s t : State} {kind : ErrorKind} (hc : s.cfg.IsPwmctl)
    (hrsp : s.rsp = none) (h : exec i s = .next t) (ht : t.rsp = some (.error kind)) :
    Erred i s t kind := by
  obtain ⟨-, hmodeReg⟩ := modeReg_permitted hc
  cases i with
  | configure =>
    rcases execConfigure_cases h with ⟨-, rfl⟩ | ⟨addr, value, ha, -, ⟨hdenied, -⟩ | ⟨-, rfl⟩⟩
    · exact .of_raise (.inl rfl) ht
    · exact nomatch hdenied.symm.trans (channelAddress_permitted hc ha).2
    · exact .of_write (by simpa) (memWrite_history ..) nofun nofun ht
  | capture chan timeout =>
    rcases execCapture_cases h with ⟨-, rfl⟩ | ⟨addr, ha, ⟨hdenied, -⟩ | ⟨-, rfl⟩⟩
    · exact .of_raise (.inl rfl) ht
    · exact nomatch hdenied.symm.trans (channelAddress_permitted hc ha).1
    · obtain ⟨cause, rfl, hread⟩ := eq_err_of_finish_captureOutcome (by simpa) ht
      exact .failed (.read addr timeout (readResult s)) (by simp) (by simp [failedWith, hread]) nofun nofun
  | enable =>
    rcases execEnable_cases h with ⟨hdenied, -⟩ | ⟨-, rfl⟩
    · exact nomatch hdenied.symm.trans hmodeReg
    · exact .of_write (by simpa) (memWrite_history ..) (by rintro _ ⟨⟩; rfl) nofun ht
  | disable =>
    rcases execDisable_cases h with ⟨hdenied, -⟩ | ⟨-, rfl⟩
    · exact nomatch hdenied.symm.trans hmodeReg
    · exact .of_write (by simpa) (memWrite_history ..) (by rintro _ ⟨⟩; rfl) nofun ht
  | teardown =>
    rcases execTeardown_cases h with ⟨hdenied, -⟩ | ⟨-, ⟨-, rfl⟩ | ⟨a, ha, rfl⟩⟩
    · exact nomatch hdenied.symm.trans hmodeReg
    · simp [hrsp] at ht
    · exact .of_write (answer := some a) (by simpa) (ha ▸ memWrite_history ..) (by rintro _ ⟨⟩; rfl)
        (fun _ => rfl) ht
  | setPolarity => obtain rfl := Host.Outcome.next.inj h; exact .of_raise (.inr rfl) ht
  | reserved6 => obtain rfl := Host.Outcome.next.inj h; exact .of_raise (.inr rfl) ht
  | reserved7 => obtain rfl := Host.Outcome.next.inj h; exact .of_raise (.inr rfl) ht

/-- Settles O30, by the two ways a command can end with an error; that nothing else moves mode or lifecycle
is every command's frame. -/
theorem errorsArePrecise : Obligations.ErrorsArePrecise := by
  intro i s t kind hc hrsp h ht
  obtain ⟨-, -, -, -, hkeepsMode, hkeepsLife, -⟩ := commandFrame i s t h
  cases exec_erred hc hrsp h ht with
  | rejected hkind =>
    refine ⟨fun _ => rfl, fun e he => ?_⟩
    subst he
    exact hkind.elim nofun nofun
  | failed ev hhistory hfailed hmode hlife =>
    refine ⟨fun hne => absurd rfl (hne _), fun e he => ?_⟩
    obtain rfl := ErrorKind.transportFailure.inj he
    refine ⟨⟨ev, hhistory, hfailed⟩, fun hi => ⟨hkeepsMode hi, hkeepsLife ?_⟩, ?_, ?_, ?_⟩
    · rintro rfl
      exact nomatch hi
    · rintro rfl
      exact ⟨hkeepsLife nofun, hmode _ rfl⟩
    · rintro rfl
      exact ⟨hkeepsLife nofun, hmode _ rfl⟩
    · rintro rfl
      exact ⟨hlife rfl, hmode _ rfl⟩

/-- Settles O31: no way to end with an error is a PermissionDenied. -/
theorem permissionDeniedNeverProduced : Obligations.PermissionDeniedNeverProduced := by
  intro i s t hc hrsp h ht
  cases exec_erred hc hrsp h ht with
  | rejected hkind => exact hkind.elim nofun nofun

end Sys2Proof.Machine
end

section
/-! PROOFS. spec/70_reset_and_hazards.md R190 to R192: the host's reset, of an idle and of a hanging block. -/

namespace Sys2Proof.Machine

/-- R190, R191: an idle block takes the reset, whatever its lifecycle. -/
theorem step_of_idle_of_reset {s : State} {rest : List HostMove} (hbusy : s.busy = .idle)
    (hhost : s.host = .reset :: rest) : step s = .next (hostReset rest s) := by
  simp only [step, handshake, hbusy, hhost]

/-- R192: a reset with a command in flight is outside the model. -/
theorem step_of_hanging_of_reset {s : State} {rest : List HostMove} (hbusy : s.busy = .busy)
    (hrsp : s.rsp = none) (hhost : s.host = .reset :: rest) : step s = .refused .resetInFlight := by
  simp only [step, handshake, hbusy, hrsp, hhost]

/-- Settles O43, by whether a command is in flight. -/
theorem resetMove : Obligations.ResetMove :=
  fun _ _ hhost => ⟨fun hbusy => step_of_idle_of_reset hbusy hhost,
    fun hbusy hrsp => step_of_hanging_of_reset hbusy hrsp hhost⟩

end Sys2Proof.Machine
end

section
/-! PROOFS. spec/70_reset_and_hazards.md R197: a command whose request the transport never answers. -/

namespace Sys2Proof.Machine

open Sys2Proof.Safety

/-- A write that is never answered: one answer used up and one event, and nothing else. -/
theorem finish_memWrite_of_unanswered {s : State} (hx : nextAnswer s = none) (addr : Nat)
    (value : Byte) :
    finish ((writeResult s).map writeOutcome) (memWrite addr value s) =
      { consumeAnswer s with history := s.history ++ [.write addr value none] } := by
  rw [memWrite_eq, writeResult_none hx, Option.map_none, finish_none]

/-- A read that is never answered: one answer used up and one event, and nothing else. -/
theorem finish_memRead_of_unanswered {s : State} (hx : nextAnswer s = none) (addr timeout : Nat) :
    finish ((readResult s).map (captureOutcome s.cfg)) (memRead addr timeout s) =
      { consumeAnswer s with history := s.history ++ [.read addr timeout none] } := by
  rw [memRead_eq, readResult_none hx, Option.map_none, finish_none]

/-- A mode write that is never answered leaves the shadow alone and has no outcome. -/
theorem modeWrite_of_unanswered (target : Mode) {s : State}
    (hw : canWrite s.cfg s.cfg.modeReg = true) (hx : nextAnswer s = none) :
    modeWrite target s = { consumeAnswer s with
      history := s.history ++ [.write s.cfg.modeReg (modeByte s.cfg target) none] } ∧
    modeWriteOutcome s = none := by
  rcases modeWrite_cases target s with ⟨hw', -⟩ | ⟨-, hwrite, hout⟩
  · exact nomatch hw'.symm.trans hw
  · rw [hwrite, hout, writeResult_none hx]
    refine ⟨?_, rfl⟩
    rw [modeAfterWrite, setMode_eq_self (memWrite_mode ..), memWrite_eq, writeResult_none hx]

/-- ENABLE's and DISABLE's run when the transport never answers. -/
theorem finish_modeWrite_of_unanswered (target : Mode) {s : State}
    (hw : canWrite s.cfg s.cfg.modeReg = true) (hx : nextAnswer s = none) :
    finish (modeWriteOutcome s) (modeWrite target s) = { consumeAnswer s with
      history := s.history ++ [.write s.cfg.modeReg (modeByte s.cfg target) none] } := by
  obtain ⟨hwrite, hout⟩ := modeWrite_of_unanswered target hw hx
  rw [hwrite, hout, finish_none]

/-! ### The five commands that issue a request -/

theorem exec_configure_of_unanswered {chan dutyNs addr : Nat} {value : Byte} {s : State}
    (hx : nextAnswer s = none) (ha : channelAddress s.cfg chan = some addr)
    (hv : toDeviceUnit s.cfg dutyNs = some value) (hw : canWrite s.cfg addr = true) (periodNs : Nat) :
    exec (.configure chan dutyNs periodNs) s =
      .next { consumeAnswer s with history := s.history ++ [.write addr value none] } := by
  rw [exec_configure_of_permitted ha hv hw, finish_memWrite_of_unanswered hx]

theorem exec_capture_of_unanswered {chan addr : Nat} {s : State} (hx : nextAnswer s = none)
    (ha : channelAddress s.cfg chan = some addr) (hr : canRead s.cfg addr = true) (timeout : Nat) :
    exec (.capture chan timeout) s =
      .next { consumeAnswer s with history := s.history ++ [.read addr timeout none] } := by
  rw [exec_capture_of_permitted ha hr, finish_memRead_of_unanswered hx]

theorem exec_enable_of_unanswered {s : State} (hx : nextAnswer s = none)
    (hw : canWrite s.cfg s.cfg.modeReg = true) :
    exec .enable s = .next { consumeAnswer s with
      history := s.history ++ [.write s.cfg.modeReg s.cfg.modeValGenerate none] } :=
  congrArg _ (finish_modeWrite_of_unanswered .generate hw hx)

theorem exec_disable_of_unanswered {s : State} (hx : nextAnswer s = none)
    (hw : canWrite s.cfg s.cfg.modeReg = true) :
    exec .disable s = .next { consumeAnswer s with
      history := s.history ++ [.write s.cfg.modeReg s.cfg.modeValMeasure none] } :=
  congrArg _ (finish_modeWrite_of_unanswered .measure hw hx)

/-- TEARDOWN's steps 2 and 3 are not reached (log 5), so it hangs as DISABLE does. -/
theorem exec_teardown_of_unanswered {s : State} (hx : nextAnswer s = none)
    (hw : canWrite s.cfg s.cfg.modeReg = true) :
    exec .teardown s = .next { consumeAnswer s with
      history := s.history ++ [.write s.cfg.modeReg s.cfg.modeValMeasure none] } := by
  obtain ⟨hwrite, hout⟩ := modeWrite_of_unanswered .measure hw hx
  rw [exec, execTeardown, hwrite, hout]
  rfl

/-! ### Every command -/

/-- How a command's run can end when the transport never answers: its request hangs, or it was rejected
before any. -/
inductive RanUnanswered (s : State) : State → Prop
  | hung (e : Event) (hunanswered : answered e = false) :
      RanUnanswered s { consumeAnswer s with history := s.history ++ [e] }
  | rejected (kind : ErrorKind) {u : State} (hhistory : u.history = s.history) :
      RanUnanswered s (raise kind u)

/-- A run known to leave one unanswered request. -/
theorem RanUnanswered.of_hung {i : Instr} {s t : State} {e : Event} (hunanswered : answered e = false)
    (hrun : exec i s = .next { consumeAnswer s with history := s.history ++ [e] })
    (h : exec i s = .next t) : RanUnanswered s t := by
  obtain rfl := Host.Outcome.next.inj (hrun.symm.trans h)
  exact .hung e hunanswered

theorem exec_ranUnanswered {i : Instr} {s t : State} (hx : nextAnswer s = none)
    (h : exec i s = .next t) : RanUnanswered s t := by
  cases i with
  | configure chan dutyNs periodNs =>
    rcases execConfigure_cases h with ⟨-, rfl⟩ | ⟨addr, value, ha, hv, ⟨-, rfl⟩ | ⟨hw, -⟩⟩
    · exact .rejected _ rfl
    · exact .rejected _ rfl
    · exact .of_hung rfl (exec_configure_of_unanswered hx ha hv hw periodNs) h
  | capture chan timeout =>
    rcases execCapture_cases h with ⟨-, rfl⟩ | ⟨addr, ha, ⟨-, rfl⟩ | ⟨hr, -⟩⟩
    · exact .rejected _ rfl
    · exact .rejected _ rfl
    · exact .of_hung rfl (exec_capture_of_unanswered hx ha hr timeout) h
  | enable =>
    rcases execEnable_cases h with ⟨-, rfl⟩ | ⟨hw, -⟩
    · exact .rejected _ rfl
    · exact .of_hung rfl (exec_enable_of_unanswered hx hw) h
  | disable =>
    rcases execDisable_cases h with ⟨-, rfl⟩ | ⟨hw, -⟩
    · exact .rejected _ rfl
    · exact .of_hung rfl (exec_disable_of_unanswered hx hw) h
  | teardown =>
    rcases execTeardown_cases h with ⟨-, rfl⟩ | ⟨hw, -⟩
    · exact .rejected _ rfl
    · exact .of_hung rfl (exec_teardown_of_unanswered hx hw) h
  | setPolarity => obtain rfl := Host.Outcome.next.inj h; exact .rejected _ rfl
  | reserved6 => obtain rfl := Host.Outcome.next.inj h; exact .rejected _ rfl
  | reserved7 => obtain rfl := Host.Outcome.next.inj h; exact .rejected _ rfl

/-- Settles O36: the five hanging runs, and of every command that it hangs with its mode and lifecycle kept
or was rejected with nothing issued. -/
theorem unansweredRequestHangs : Obligations.UnansweredRequestHangs := by
  intro s hx
  refine ⟨fun _ _ periodNs _ hchan hv hw => ?_, fun _ timeout hchan hr => ?_, fun hw => ?_,
    fun i t h => ?_⟩
  · exact exec_configure_of_unanswered hx (channelAddress_of_lt hchan) hv hw periodNs
  · exact exec_capture_of_unanswered hx (channelAddress_of_lt hchan) hr timeout
  · exact ⟨exec_enable_of_unanswered hx hw, exec_disable_of_unanswered hx hw,
      exec_teardown_of_unanswered hx hw⟩
  · cases exec_ranUnanswered hx h with
    | hung e hunanswered =>
      exact .inl ⟨consumeAnswer_rsp s, consumeAnswer_mode s, consumeAnswer_life s, e, rfl, hunanswered⟩
    | rejected kind hhistory => exact .inr ⟨hhistory, kind, rfl⟩

end Sys2Proof.Machine
end
